-- ==== Sys2Proof/Word.lean ====
section
/-! DEFINITION. The word types of 16b40 (spec/10_state.md R10, spec/20_memory.md R40 and R41). -/

namespace Sys2Proof

/-- A 16-bit word: the width of every register, address, memory word and port datum (R10). -/
abbrev Word := BitVec 16

/-- Half of a word, the unit in which the model keeps memory (`Host.Cell`). No instruction of 16b40
sees one (R40, R43; notes/assumptions/1.md). -/
abbrev Byte := BitVec 8

/-- A 3-bit register number: a general register (R11) or an external register (R12). -/
abbrev Reg := BitVec 3

/-- A 24-bit physical word address: frame number and offset (R52). -/
abbrev PAddr := BitVec 24

/-- The four flags in the order S O C Z, bit 3 to bit 0 (R21). -/
abbrev FlagBits := BitVec 4

end Sys2Proof
end

