-- ==== Sys2Proof/Syntax.lean ====
section
/-! DEFINITION. The instructions of 16b40, one constructor per row of spec/opcode_table.json (59
instruction rows and the 16 programmable slots of spec/40_system.md R96). A mnemonic with a register
form and an immediate form has two constructors, `…Reg` and `…Imm`. -/

namespace Sys2Proof

/-- One instruction. Register and immediate operands are the fields of the word, the immediates in
their plain bit order (the encoding's order, spec/30_encoding.md R63, is the decoder's affair).
`low` is a field the instruction ignores (R79) or whose format the source does not give (R96); it is
kept so that the whole instruction word is known when the instruction is turned away with the word in
PX[12] (R81, R82; notes/assumptions/18.md). -/
inductive Instr where
  /-- INT imm8 (R90) -/
  | int (imm : BitVec 8)
  /-- IRT (R91) -/
  | irt (low : BitVec 8)
  /-- HLT (R92) -/
  | hlt (low : BitVec 8)
  /-- HCF (R93) -/
  | hcf (low : BitVec 8)
  /-- PXR d, imm5 (R94) -/
  | pxr (d : Reg) (num : BitVec 5)
  /-- PXW imm5, s (R95) -/
  | pxw (num : BitVec 5) (src : Reg)
  /-- CAL imm11 (R101) -/
  | calImm (imm : BitVec 11)
  /-- JMP imm11 (R102) -/
  | jmpImm (imm : BitVec 11)
  /-- JCU LEG, imm8 (R103) -/
  | jcu (leg : BitVec 3) (imm : BitVec 8)
  /-- JCS LEG, imm8 (R104) -/
  | jcs (leg : BitVec 3) (imm : BitVec 8)
  /-- PRD d, s (R115) -/
  | prdReg (d : Reg) (src : Reg)
  /-- PRD d, imm8 (R115) -/
  | prdImm (d : Reg) (imm : BitVec 8)
  /-- PWR d, s: R[d] names the place, R[s] is the datum (R116) -/
  | pwrReg (d : Reg) (src : Reg)
  /-- PWR imm8, s: the immediate names the place, R[s] is the datum (R116) -/
  | pwrImm (imm : BitVec 8) (src : Reg)
  /-- XRD d, e: e an external register number; register form only (R117) -/
  | xrd (d : Reg) (e : Reg)
  /-- XWR e, s: e an external register number (R118) -/
  | xwrReg (e : Reg) (src : Reg)
  /-- XWR e, imm8 (R118) -/
  | xwrImm (e : Reg) (imm : BitVec 8)
  /-- MRD d, s (R125) -/
  | mrdReg (d : Reg) (src : Reg)
  /-- MRD d, imm8 (R125) -/
  | mrdImm (d : Reg) (imm : BitVec 8)
  /-- MWR d, s: R[d] names the place, R[s] is the datum (R126) -/
  | mwrReg (d : Reg) (src : Reg)
  /-- MWR imm8, s: the immediate names the place, R[s] is the datum (R126) -/
  | mwrImm (imm : BitVec 8) (src : Reg)
  /-- MRO d, s (R127) -/
  | mroReg (d : Reg) (src : Reg)
  /-- MRO d, imm8 (R127) -/
  | mroImm (d : Reg) (imm : BitVec 8)
  /-- MWO d, s: R[d] names the place, R[s] is the datum (R128) -/
  | mwoReg (d : Reg) (src : Reg)
  /-- MWO imm8, s: the immediate names the place, R[s] is the datum (R128) -/
  | mwoImm (imm : BitVec 8) (src : Reg)
  /-- MUL d, s (R137) -/
  | mulReg (d : Reg) (src : Reg)
  /-- MUL d, imm8 (R137) -/
  | mulImm (d : Reg) (imm : BitVec 8)
  /-- CMP d, s (R138) -/
  | cmpReg (d : Reg) (src : Reg)
  /-- CMP d, imm8 (R138) -/
  | cmpImm (d : Reg) (imm : BitVec 8)
  /-- DIV d, s (R139) -/
  | divReg (d : Reg) (src : Reg)
  /-- DIV d, imm8 (R139) -/
  | divImm (d : Reg) (imm : BitVec 8)
  /-- TST d, s (R140) -/
  | tstReg (d : Reg) (src : Reg)
  /-- TST d, imm8 (R140) -/
  | tstImm (d : Reg) (imm : BitVec 8)
  /-- MOV d, s (R141) -/
  | movReg (d : Reg) (src : Reg)
  /-- MOV d, imm8 (R141) -/
  | movImm (d : Reg) (imm : BitVec 8)
  /-- POP d (R129) -/
  | pop (d : Reg) (low : BitVec 5)
  /-- PSH s (R130) -/
  | psh (src : Reg) (low : BitVec 5)
  /-- CAL s (R105) -/
  | calReg (src : Reg) (low : BitVec 5)
  /-- JMP s (R106) -/
  | jmpReg (src : Reg) (low : BitVec 5)
  /-- RET SOCZ (R107) -/
  | ret (socz : FlagBits)
  /-- NOP (R108) -/
  | nop (low : BitVec 8)
  /-- MCU LEG d, s (R160) -/
  | mcu (leg : BitVec 3) (d : Reg) (src : Reg)
  /-- MCS LEG d, s (R161) -/
  | mcs (leg : BitVec 3) (d : Reg) (src : Reg)
  /-- ADD d, s (R142) -/
  | addReg (d : Reg) (src : Reg)
  /-- ADD d, imm8 (R142) -/
  | addImm (d : Reg) (imm : BitVec 8)
  /-- SUB d, s (R143) -/
  | subReg (d : Reg) (src : Reg)
  /-- SUB d, imm8 (R143) -/
  | subImm (d : Reg) (imm : BitVec 8)
  /-- NOT d, s (R150) -/
  | notReg (d : Reg) (src : Reg)
  /-- NOT d, imm8 (R150) -/
  | notImm (d : Reg) (imm : BitVec 8)
  /-- AND d, s (R151) -/
  | andReg (d : Reg) (src : Reg)
  /-- AND d, imm8 (R151) -/
  | andImm (d : Reg) (imm : BitVec 8)
  /-- ORR d, s (R152) -/
  | orrReg (d : Reg) (src : Reg)
  /-- ORR d, imm8 (R152) -/
  | orrImm (d : Reg) (imm : BitVec 8)
  /-- XOR d, s (R153) -/
  | xorReg (d : Reg) (src : Reg)
  /-- XOR d, imm8 (R153) -/
  | xorImm (d : Reg) (imm : BitVec 8)
  /-- SHL d, s (R154) -/
  | shlReg (d : Reg) (src : Reg)
  /-- SHL d, imm8 (R154) -/
  | shlImm (d : Reg) (imm : BitVec 8)
  /-- SHR d, s (R155) -/
  | shrReg (d : Reg) (src : Reg)
  /-- SHR d, imm8 (R155) -/
  | shrImm (d : Reg) (imm : BitVec 8)
  /-- programmable instruction #0 (R96) -/
  | programmable0 (low : BitVec 8)
  /-- programmable instruction #1 (R96) -/
  | programmable1 (low : BitVec 8)
  /-- programmable instruction #2 (R96) -/
  | programmable2 (low : BitVec 8)
  /-- programmable instruction #3 (R96) -/
  | programmable3 (low : BitVec 8)
  /-- programmable instruction #4 (R96) -/
  | programmable4 (low : BitVec 8)
  /-- programmable instruction #5 (R96) -/
  | programmable5 (low : BitVec 8)
  /-- programmable instruction #6 (R96) -/
  | programmable6 (low : BitVec 8)
  /-- programmable instruction #7 (R96) -/
  | programmable7 (low : BitVec 8)
  /-- programmable instruction #8 (R96) -/
  | programmable8 (low : BitVec 8)
  /-- programmable instruction #9 (R96) -/
  | programmable9 (low : BitVec 8)
  /-- programmable instruction #A (R96) -/
  | programmableA (low : BitVec 8)
  /-- programmable instruction #B (R96) -/
  | programmableB (low : BitVec 8)
  /-- programmable instruction #C (R96) -/
  | programmableC (low : BitVec 8)
  /-- programmable instruction #D (R96) -/
  | programmableD (low : BitVec 8)
  /-- programmable instruction #E (R96) -/
  | programmableE (low : BitVec 8)
  /-- programmable instruction #F (R96) -/
  | programmableF (low : BitVec 8)
deriving DecidableEq, Repr

end Sys2Proof
end

