-- ==== Sys2Proof/WellFormed.lean ====
section
/-! DEFINITION. The static rules the spec puts on programs. The widths of the fields are held by the
types of `Instr`; what remains is what a program "should" or "MUST NOT" write. An ill-formed
instruction still has a meaning (notes/assumptions/20.md). -/

namespace Sys2Proof

/-- A privileged external register that PXR may name: 0, 1, 2 and 10 to 14. The others are reserved
("MUST NOT be used", spec/10_state.md R32), and 31 is "write only" (R31). -/
def pxReadable (num : BitVec 5) : Bool :=
  num.toNat ≤ 2 || (10 ≤ num.toNat && num.toNat ≤ 14)

/-- A privileged external register that PXW may name: 0, 1, 10 to 14 and 31. A write of PX[2] is
nowhere described (spec/10_state.md R29). -/
def pxWritable (num : BitVec 5) : Bool :=
  num.toNat ≤ 1 || (10 ≤ num.toNat && num.toNat ≤ 14) || num.toNat == 31

/-- The instruction obeys every static rule the spec puts on programs: a field it ignores is 0
("ignore immediate, it should be set to 0", spec/30_encoding.md R64, R65, R79); PXR and PXW name a
register that is there for them (spec/10_state.md R26, R29, R31, R32); it is no programmable slot
(spec/30_encoding.md R80). -/
def WellFormed : Instr → Bool
  | .irt low | .hlt low | .hcf low | .nop low => low == 0
  | .pop _ low | .psh _ low | .calReg _ low | .jmpReg _ low => low == 0
  | .pxr _ num => pxReadable num
  | .pxw num _ => pxWritable num
  | .programmable0 _ | .programmable1 _ | .programmable2 _ | .programmable3 _ | .programmable4 _
  | .programmable5 _ | .programmable6 _ | .programmable7 _ | .programmable8 _ | .programmable9 _
  | .programmableA _ | .programmableB _ | .programmableC _ | .programmableD _ | .programmableE _
  | .programmableF _ => false
  | .int _ | .calImm _ | .jmpImm _ | .jcu _ _ | .jcs _ _ | .prdReg _ _ | .prdImm _ _
  | .pwrReg _ _ | .pwrImm _ _ | .xrd _ _ | .xwrReg _ _ | .xwrImm _ _ | .mrdReg _ _ | .mrdImm _ _
  | .mwrReg _ _ | .mwrImm _ _ | .mroReg _ _ | .mroImm _ _ | .mwoReg _ _ | .mwoImm _ _
  | .mulReg _ _ | .mulImm _ _ | .cmpReg _ _ | .cmpImm _ _ | .divReg _ _ | .divImm _ _
  | .tstReg _ _ | .tstImm _ _ | .movReg _ _ | .movImm _ _ | .ret _ | .mcu _ _ _ | .mcs _ _ _
  | .addReg _ _ | .addImm _ _ | .subReg _ _ | .subImm _ _ | .notReg _ _ | .notImm _ _
  | .andReg _ _ | .andImm _ _ | .orrReg _ _ | .orrImm _ _ | .xorReg _ _ | .xorImm _ _
  | .shlReg _ _ | .shlImm _ _ | .shrReg _ _ | .shrImm _ _ => true

end Sys2Proof
end

