-- ==== Sys2Proof/Decode.lean ====
section
/-! DEFINITION. The decoder and the encoder of 16b40, both written from spec/30_encoding.md R60 to
R80, and the opcode table's fixed bits. -/

namespace Sys2Proof

/-! ### Fields of an instruction word -/

/-- `w[15:11]`, the short opcode (R62). -/
def topField (w : Word) : BitVec 5 := w.extractLsb' 11 5

/-- `w[10:8]`: the last bits of a long opcode (R62), or the field s of S_REGREG and S_MCC (R69, R71). -/
def subField (w : Word) : BitVec 3 := w.extractLsb' 8 3

/-- `w[7:5]`: the register field of L_REGIMM and S_REGIMM, the field d of S_REGREG and S_MCC
(R65, R69, R70, R71). -/
def regField (w : Word) : Reg := w.extractLsb' 5 3

/-- `w[4:0]`: the opcode of S_REGREG (R71), or the imm5 field of L_REGIMM (R65). -/
def low5Field (w : Word) : BitVec 5 := w.extractLsb' 0 5

/-- `w[7:0]`: the imm8 field of L_IMM (R64). -/
def low8Field (w : Word) : BitVec 8 := w.extractLsb' 0 8

/-- `w[3:1]`: the LEG field of S_JCC and S_MCC (R68, R69, R84). -/
def legField (w : Word) : BitVec 3 := w.extractLsb' 1 3

/-- The immediate held by an immediate field: "Most significant bit comes LAST in the encoding",
`v = (f[0] << (X-1)) | f[X-1:1]` (R63). -/
def immOfField {n : Nat} (f : BitVec n) : BitVec n := (f <<< (n - 1)) ||| (f >>> 1)

/-- The field that holds an immediate: `f = (v[X-2:0] << 1) | v[X-1]` (R63). -/
def fieldOfImm {n : Nat} (v : BitVec n) : BitVec n := (v <<< 1) ||| (v >>> (n - 1))

/-- The imm8 of L_IMM (R64). -/
def immL (w : Word) : BitVec 8 := immOfField (low8Field w)

/-- The imm5 of L_REGIMM (R65). -/
def imm5 (w : Word) : BitVec 5 := immOfField (low5Field w)

/-- The imm11 of S_LIMM (R67). -/
def imm11 (w : Word) : BitVec 11 := immOfField (w.extractLsb' 0 11)

/-- The imm8 of S_JCC: the field is `w[10:4]` followed by `w[0]` (R68). -/
def immJ (w : Word) : BitVec 8 := immOfField
  ((w.extractLsb' 4 7).setWidth 8 <<< 1 ||| (w.extractLsb' 0 1).setWidth 8)

/-- The imm8 of S_REGIMM: the field is `w[10:8]` followed by `w[4:0]` (R70). -/
def immS (w : Word) : BitVec 8 := immOfField
  ((subField w).setWidth 8 <<< 5 ||| (low5Field w).setWidth 8)

/-! ### Decoding -/

/-- Why a word is no instruction (R77, R78). Each of them raises interrupt 6 when it is executed. -/
inductive Illegal where
  /-- S_REGREG with an opcode that has no register form (R77, first row) -/
  | blankRegisterForm
  /-- long opcodes 0x0C and 0x0D (R77, second row) -/
  | blankGroup01
  /-- long opcodes 0xAD and 0xAE (R77, third row) -/
  | blankGroup15
  /-- short opcode 0x0A: XRD has no immediate form (R77, fourth row) -/
  | xrdImmediateForm
  /-- a field that must be zero is not (R78) -/
  | mustBeZero
deriving DecidableEq, Repr

/-- Format S_REGREG, `w[15:11] = 0` (R71, R76, R77). -/
def decodeRegReg (w : Word) : Except Illegal Instr :=
  match (low5Field w).toNat with
  | 0x08 => .ok (.prdReg (regField w) (subField w))
  | 0x09 => .ok (.pwrReg (regField w) (subField w))
  | 0x0A => .ok (.xrd (regField w) (subField w))
  | 0x0B => .ok (.xwrReg (regField w) (subField w))
  | 0x0C => .ok (.mrdReg (regField w) (subField w))
  | 0x0D => .ok (.mwrReg (regField w) (subField w))
  | 0x0E => .ok (.mroReg (regField w) (subField w))
  | 0x0F => .ok (.mwoReg (regField w) (subField w))
  | 0x10 => .ok (.mulReg (regField w) (subField w))
  | 0x11 => .ok (.cmpReg (regField w) (subField w))
  | 0x12 => .ok (.divReg (regField w) (subField w))
  | 0x13 => .ok (.tstReg (regField w) (subField w))
  | 0x14 => .ok (.movReg (regField w) (subField w))
  | 0x18 => .ok (.addReg (regField w) (subField w))
  | 0x19 => .ok (.subReg (regField w) (subField w))
  | 0x1A => .ok (.notReg (regField w) (subField w))
  | 0x1B => .ok (.andReg (regField w) (subField w))
  | 0x1C => .ok (.orrReg (regField w) (subField w))
  | 0x1D => .ok (.xorReg (regField w) (subField w))
  | 0x1E => .ok (.shlReg (regField w) (subField w))
  | 0x1F => .ok (.shrReg (regField w) (subField w))
  | _ => .error .blankRegisterForm

/-- Long-opcode group 01 (R62, R76). -/
def decodeGroup01 (w : Word) : Except Illegal Instr :=
  match (subField w).toNat with
  | 0 => .ok (.int (immL w))
  | 1 => .ok (.irt (low8Field w))
  | 2 => .ok (.hlt (low8Field w))
  | 3 => .ok (.hcf (low8Field w))
  | 6 => .ok (.pxr (regField w) (imm5 w))
  | 7 => .ok (.pxw (imm5 w) (regField w))
  | _ => .error .blankGroup01

/-- RET: `w[3:0]` must be 0 (R66, R78). -/
def decodeRet (w : Word) : Except Illegal Instr :=
  if w.extractLsb' 0 4 = 0 then .ok (.ret (w.extractLsb' 4 4)) else .error .mustBeZero

/-- Long-opcode group 15 (R62, R76). -/
def decodeGroup15 (w : Word) : Except Illegal Instr :=
  match (subField w).toNat with
  | 0 => .ok (.pop (regField w) (low5Field w))
  | 1 => .ok (.psh (regField w) (low5Field w))
  | 2 => .ok (.calReg (regField w) (low5Field w))
  | 3 => .ok (.jmpReg (regField w) (low5Field w))
  | 4 => decodeRet w
  | 7 => .ok (.nop (low8Field w))
  | _ => .error .blankGroup15

/-- Format S_MCC, built by `mk` from LEG, d and s: bits 4 and 0 must be 0 (R69, R78). -/
def decodeMcc (mk : BitVec 3 → Reg → Reg → Instr) (w : Word) : Except Illegal Instr :=
  if w.extractLsb' 4 1 = 0 ∧ w.extractLsb' 0 1 = 0 then
    .ok (mk (legField w) (regField w) (subField w))
  else .error .mustBeZero

/-- Programmable slots, number `w[11:8]` (R80, R96). -/
def decodeProgrammable (w : Word) : Except Illegal Instr :=
  match (w.extractLsb' 8 4).toNat with
  | 0x0 => .ok (.programmable0 (low8Field w))
  | 0x1 => .ok (.programmable1 (low8Field w))
  | 0x2 => .ok (.programmable2 (low8Field w))
  | 0x3 => .ok (.programmable3 (low8Field w))
  | 0x4 => .ok (.programmable4 (low8Field w))
  | 0x5 => .ok (.programmable5 (low8Field w))
  | 0x6 => .ok (.programmable6 (low8Field w))
  | 0x7 => .ok (.programmable7 (low8Field w))
  | 0x8 => .ok (.programmable8 (low8Field w))
  | 0x9 => .ok (.programmable9 (low8Field w))
  | 0xA => .ok (.programmableA (low8Field w))
  | 0xB => .ok (.programmableB (low8Field w))
  | 0xC => .ok (.programmableC (low8Field w))
  | 0xD => .ok (.programmableD (low8Field w))
  | 0xE => .ok (.programmableE (low8Field w))
  | _ => .ok (.programmableF (low8Field w))

/-- The decoder, over `w[15:11]` (R76). The last arm is 0x1F. -/
def decode (w : Word) : Except Illegal Instr :=
  match (topField w).toNat with
  | 0x00 => decodeRegReg w
  | 0x01 => decodeGroup01 w
  | 0x02 => .ok (.calImm (imm11 w))
  | 0x03 => .ok (.jmpImm (imm11 w))
  | 0x04 => .ok (.jcu (legField w) (immJ w))
  | 0x05 => .ok (.jcs (legField w) (immJ w))
  | 0x06 => decodeProgrammable w
  | 0x07 => decodeProgrammable w
  | 0x08 => .ok (.prdImm (regField w) (immS w))
  | 0x09 => .ok (.pwrImm (immS w) (regField w))
  | 0x0A => .error .xrdImmediateForm
  | 0x0B => .ok (.xwrImm (regField w) (immS w))
  | 0x0C => .ok (.mrdImm (regField w) (immS w))
  | 0x0D => .ok (.mwrImm (immS w) (regField w))
  | 0x0E => .ok (.mroImm (regField w) (immS w))
  | 0x0F => .ok (.mwoImm (immS w) (regField w))
  | 0x10 => .ok (.mulImm (regField w) (immS w))
  | 0x11 => .ok (.cmpImm (regField w) (immS w))
  | 0x12 => .ok (.divImm (regField w) (immS w))
  | 0x13 => .ok (.tstImm (regField w) (immS w))
  | 0x14 => .ok (.movImm (regField w) (immS w))
  | 0x15 => decodeGroup15 w
  | 0x16 => decodeMcc .mcu w
  | 0x17 => decodeMcc .mcs w
  | 0x18 => .ok (.addImm (regField w) (immS w))
  | 0x19 => .ok (.subImm (regField w) (immS w))
  | 0x1A => .ok (.notImm (regField w) (immS w))
  | 0x1B => .ok (.andImm (regField w) (immS w))
  | 0x1C => .ok (.orrImm (regField w) (immS w))
  | 0x1D => .ok (.xorImm (regField w) (immS w))
  | 0x1E => .ok (.shlImm (regField w) (immS w))
  | _ => .ok (.shrImm (regField w) (immS w))

/-- The instruction the decoder reads from an opcode-table row's bits: one word, bit 0 its least
significant bit. Every row has 16 bits; a bit of `w` above them belongs to no instruction. -/
def decodeTableWord (_nbits w : Nat) : Option Instr :=
  if w < 65536 then
    match decode (BitVec.ofNat 16 w) with
    | .ok i => some i
    | .error _ => none
  else none

/-! ### Encoding -/

/-- A field placed with its least significant bit at bit `lo` of the word. -/
def put {n : Nat} (v : BitVec n) (lo : Nat) : Word := v.setWidth 16 <<< lo

/-- Format L_IMM (R64) and the programmable slots (R80): long opcode, eight bits. -/
def wordL (op : BitVec 8) (field : BitVec 8) : Word := put op 8 ||| put field 0

/-- Format L_REGIMM (R65): long opcode, register, five bits. -/
def wordLReg (op : BitVec 8) (r : Reg) (field : BitVec 5) : Word :=
  put op 8 ||| put r 5 ||| put field 0

/-- Format L_RET (R66): long opcode, S O C Z in bits 7 to 4, zeros. -/
def wordRet (op : BitVec 8) (socz : FlagBits) : Word := put op 8 ||| put socz 4

/-- Format S_LIMM (R67). -/
def wordLImm (op : BitVec 5) (v : BitVec 11) : Word := put op 11 ||| put (fieldOfImm v) 0

/-- Format S_JCC (R68): the immediate's field goes to bits 10 to 4 and bit 0. -/
def wordJcc (op : BitVec 5) (leg : BitVec 3) (v : BitVec 8) : Word :=
  put op 11 ||| put ((fieldOfImm v).extractLsb' 1 7) 4 ||| put leg 1 |||
    put ((fieldOfImm v).extractLsb' 0 1) 0

/-- Format S_MCC (R69): bits 4 and 0 are 0. -/
def wordMcc (op : BitVec 5) (leg : BitVec 3) (d src : Reg) : Word :=
  put op 11 ||| put src 8 ||| put d 5 ||| put leg 1

/-- Format S_REGIMM (R70): the immediate's field goes to bits 10 to 8 and bits 4 to 0. -/
def wordRegImm (op : BitVec 5) (r : Reg) (v : BitVec 8) : Word :=
  put op 11 ||| put ((fieldOfImm v).extractLsb' 5 3) 8 ||| put r 5 |||
    put ((fieldOfImm v).extractLsb' 0 5) 0

/-- Format S_REGREG (R71): bits 15 to 11 are 0. -/
def wordRegReg (op : BitVec 5) (d src : Reg) : Word := put src 8 ||| put d 5 ||| put op 0

/-- The instruction's word (R64 to R71, R76). -/
def encode : Instr → Word
  | .int imm => wordL 0x08 (fieldOfImm imm)
  | .irt low => wordL 0x09 low
  | .hlt low => wordL 0x0A low
  | .hcf low => wordL 0x0B low
  | .pxr d num => wordLReg 0x0E d (fieldOfImm num)
  | .pxw num src => wordLReg 0x0F src (fieldOfImm num)
  | .calImm imm => wordLImm 0x02 imm
  | .jmpImm imm => wordLImm 0x03 imm
  | .jcu leg imm => wordJcc 0x04 leg imm
  | .jcs leg imm => wordJcc 0x05 leg imm
  | .xrd d e => wordRegReg 0x0A d e
  | .prdReg d src => wordRegReg 0x08 d src
  | .prdImm d imm => wordRegImm 0x08 d imm
  | .pwrReg d src => wordRegReg 0x09 d src
  | .pwrImm imm src => wordRegImm 0x09 src imm
  | .xwrReg e src => wordRegReg 0x0B e src
  | .xwrImm e imm => wordRegImm 0x0B e imm
  | .mrdReg d src => wordRegReg 0x0C d src
  | .mrdImm d imm => wordRegImm 0x0C d imm
  | .mwrReg d src => wordRegReg 0x0D d src
  | .mwrImm imm src => wordRegImm 0x0D src imm
  | .mroReg d src => wordRegReg 0x0E d src
  | .mroImm d imm => wordRegImm 0x0E d imm
  | .mwoReg d src => wordRegReg 0x0F d src
  | .mwoImm imm src => wordRegImm 0x0F src imm
  | .mulReg d src => wordRegReg 0x10 d src
  | .mulImm d imm => wordRegImm 0x10 d imm
  | .cmpReg d src => wordRegReg 0x11 d src
  | .cmpImm d imm => wordRegImm 0x11 d imm
  | .divReg d src => wordRegReg 0x12 d src
  | .divImm d imm => wordRegImm 0x12 d imm
  | .tstReg d src => wordRegReg 0x13 d src
  | .tstImm d imm => wordRegImm 0x13 d imm
  | .movReg d src => wordRegReg 0x14 d src
  | .movImm d imm => wordRegImm 0x14 d imm
  | .addReg d src => wordRegReg 0x18 d src
  | .addImm d imm => wordRegImm 0x18 d imm
  | .subReg d src => wordRegReg 0x19 d src
  | .subImm d imm => wordRegImm 0x19 d imm
  | .notReg d src => wordRegReg 0x1A d src
  | .notImm d imm => wordRegImm 0x1A d imm
  | .andReg d src => wordRegReg 0x1B d src
  | .andImm d imm => wordRegImm 0x1B d imm
  | .orrReg d src => wordRegReg 0x1C d src
  | .orrImm d imm => wordRegImm 0x1C d imm
  | .xorReg d src => wordRegReg 0x1D d src
  | .xorImm d imm => wordRegImm 0x1D d imm
  | .shlReg d src => wordRegReg 0x1E d src
  | .shlImm d imm => wordRegImm 0x1E d imm
  | .shrReg d src => wordRegReg 0x1F d src
  | .shrImm d imm => wordRegImm 0x1F d imm
  | .pop d low => wordLReg 0xA8 d low
  | .psh src low => wordLReg 0xA9 src low
  | .calReg src low => wordLReg 0xAA src low
  | .jmpReg src low => wordLReg 0xAB src low
  | .ret socz => wordRet 0xAC socz
  | .nop low => wordL 0xAF low
  | .mcu leg d src => wordMcc 0x16 leg d src
  | .mcs leg d src => wordMcc 0x17 leg d src
  | .programmable0 low => wordL 0x30 low
  | .programmable1 low => wordL 0x31 low
  | .programmable2 low => wordL 0x32 low
  | .programmable3 low => wordL 0x33 low
  | .programmable4 low => wordL 0x34 low
  | .programmable5 low => wordL 0x35 low
  | .programmable6 low => wordL 0x36 low
  | .programmable7 low => wordL 0x37 low
  | .programmable8 low => wordL 0x38 low
  | .programmable9 low => wordL 0x39 low
  | .programmableA low => wordL 0x3A low
  | .programmableB low => wordL 0x3B low
  | .programmableC low => wordL 0x3C low
  | .programmableD low => wordL 0x3D low
  | .programmableE low => wordL 0x3E low
  | .programmableF low => wordL 0x3F low

/-! ### The opcode table -/

/-- The fixed bits of a row: a word `w` is the row's instruction when `w &&& mask = fixed` (R76). -/
structure Row where
  mask : Word
  fixed : Word
deriving DecidableEq, Repr

/-- The row of spec/opcode_table.json that an instruction belongs to. -/
def tableRow : Instr → Row
  | .int _ => ⟨0xFF00, 0x0800⟩
  | .irt _ => ⟨0xFF00, 0x0900⟩
  | .hlt _ => ⟨0xFF00, 0x0A00⟩
  | .hcf _ => ⟨0xFF00, 0x0B00⟩
  | .pxr _ _ => ⟨0xFF00, 0x0E00⟩
  | .pxw _ _ => ⟨0xFF00, 0x0F00⟩
  | .calImm _ => ⟨0xF800, 0x1000⟩
  | .jmpImm _ => ⟨0xF800, 0x1800⟩
  | .jcu _ _ => ⟨0xF800, 0x2000⟩
  | .jcs _ _ => ⟨0xF800, 0x2800⟩
  | .prdReg _ _ => ⟨0xF81F, 0x0008⟩
  | .prdImm _ _ => ⟨0xF800, 0x4000⟩
  | .pwrReg _ _ => ⟨0xF81F, 0x0009⟩
  | .pwrImm _ _ => ⟨0xF800, 0x4800⟩
  | .xrd _ _ => ⟨0xF81F, 0x000A⟩
  | .xwrReg _ _ => ⟨0xF81F, 0x000B⟩
  | .xwrImm _ _ => ⟨0xF800, 0x5800⟩
  | .mrdReg _ _ => ⟨0xF81F, 0x000C⟩
  | .mrdImm _ _ => ⟨0xF800, 0x6000⟩
  | .mwrReg _ _ => ⟨0xF81F, 0x000D⟩
  | .mwrImm _ _ => ⟨0xF800, 0x6800⟩
  | .mroReg _ _ => ⟨0xF81F, 0x000E⟩
  | .mroImm _ _ => ⟨0xF800, 0x7000⟩
  | .mwoReg _ _ => ⟨0xF81F, 0x000F⟩
  | .mwoImm _ _ => ⟨0xF800, 0x7800⟩
  | .mulReg _ _ => ⟨0xF81F, 0x0010⟩
  | .mulImm _ _ => ⟨0xF800, 0x8000⟩
  | .cmpReg _ _ => ⟨0xF81F, 0x0011⟩
  | .cmpImm _ _ => ⟨0xF800, 0x8800⟩
  | .divReg _ _ => ⟨0xF81F, 0x0012⟩
  | .divImm _ _ => ⟨0xF800, 0x9000⟩
  | .tstReg _ _ => ⟨0xF81F, 0x0013⟩
  | .tstImm _ _ => ⟨0xF800, 0x9800⟩
  | .movReg _ _ => ⟨0xF81F, 0x0014⟩
  | .movImm _ _ => ⟨0xF800, 0xA000⟩
  | .pop _ _ => ⟨0xFF00, 0xA800⟩
  | .psh _ _ => ⟨0xFF00, 0xA900⟩
  | .calReg _ _ => ⟨0xFF00, 0xAA00⟩
  | .jmpReg _ _ => ⟨0xFF00, 0xAB00⟩
  | .ret _ => ⟨0xFF0F, 0xAC00⟩
  | .nop _ => ⟨0xFF00, 0xAF00⟩
  | .mcu _ _ _ => ⟨0xF811, 0xB000⟩
  | .mcs _ _ _ => ⟨0xF811, 0xB800⟩
  | .addReg _ _ => ⟨0xF81F, 0x0018⟩
  | .addImm _ _ => ⟨0xF800, 0xC000⟩
  | .subReg _ _ => ⟨0xF81F, 0x0019⟩
  | .subImm _ _ => ⟨0xF800, 0xC800⟩
  | .notReg _ _ => ⟨0xF81F, 0x001A⟩
  | .notImm _ _ => ⟨0xF800, 0xD000⟩
  | .andReg _ _ => ⟨0xF81F, 0x001B⟩
  | .andImm _ _ => ⟨0xF800, 0xD800⟩
  | .orrReg _ _ => ⟨0xF81F, 0x001C⟩
  | .orrImm _ _ => ⟨0xF800, 0xE000⟩
  | .xorReg _ _ => ⟨0xF81F, 0x001D⟩
  | .xorImm _ _ => ⟨0xF800, 0xE800⟩
  | .shlReg _ _ => ⟨0xF81F, 0x001E⟩
  | .shlImm _ _ => ⟨0xF800, 0xF000⟩
  | .shrReg _ _ => ⟨0xF81F, 0x001F⟩
  | .shrImm _ _ => ⟨0xF800, 0xF800⟩
  | .programmable0 _ => ⟨0xFF00, 0x3000⟩
  | .programmable1 _ => ⟨0xFF00, 0x3100⟩
  | .programmable2 _ => ⟨0xFF00, 0x3200⟩
  | .programmable3 _ => ⟨0xFF00, 0x3300⟩
  | .programmable4 _ => ⟨0xFF00, 0x3400⟩
  | .programmable5 _ => ⟨0xFF00, 0x3500⟩
  | .programmable6 _ => ⟨0xFF00, 0x3600⟩
  | .programmable7 _ => ⟨0xFF00, 0x3700⟩
  | .programmable8 _ => ⟨0xFF00, 0x3800⟩
  | .programmable9 _ => ⟨0xFF00, 0x3900⟩
  | .programmableA _ => ⟨0xFF00, 0x3A00⟩
  | .programmableB _ => ⟨0xFF00, 0x3B00⟩
  | .programmableC _ => ⟨0xFF00, 0x3C00⟩
  | .programmableD _ => ⟨0xFF00, 0x3D00⟩
  | .programmableE _ => ⟨0xFF00, 0x3E00⟩
  | .programmableF _ => ⟨0xFF00, 0x3F00⟩

end Sys2Proof
end

