-- ==== Sys2Proof/Config.lean ====
section
/-! DEFINITION. What an implementation of 16b40 fixes (spec/00_scope.md R7) and the free values the
spec leaves open (`any`, R8). An `opaque` constant has no body: no proof can use its value. -/

namespace Sys2Proof.Config

/-- Free bits, numbered by how many free values were drawn before: flags O and C where the spec says
"undefined but modified" (spec/44_arithmetic.md R135; notes/assumptions/7.md). -/
opaque freeBit : Nat → Bool

/-- Free words: what the environment answers to a port read for which `State.portAnswers` holds
nothing (spec/42_ports_xregs.md R119; notes/assumptions/8.md), and the page table entries loaded from
words that physical memory does not have (spec/20_memory.md R54; notes/assumptions/22.md). -/
opaque freeWord : Nat → Word

/-- Free choices among the values a stored-to word has held, for a fetch with F2.P = 0
(spec/20_memory.md R59; notes/assumptions/11.md). -/
opaque freeChoice : Nat → Nat

/-- `HANDLER_ADDR` (spec/60_exceptions.md R177), which the spec leaves OPEN
(notes/assumptions/6.md). -/
opaque handlerAddr : Word

/-- `CF_VALUE` of the modelled implementation: extensions M, D, R, C and feature B present
(spec/10_state.md R15). DESIGN CHOICE, unsafe: the spec leaves it OPEN (notes/assumptions/4.md). -/
def cfValue : Word := 0x010F#16

/-- `MEM_KIW` of the modelled implementation, the least the ISA guarantees (spec/10_state.md R29).
DESIGN CHOICE, unsafe: the spec leaves it OPEN (notes/assumptions/5.md). -/
def memKiW : Word := 64#16

/-- What a memory cell that is not listed reads as. DESIGN CHOICE, unsafe: the spec leaves memory at
reset unspecified (spec/10_state.md R35; notes/assumptions/2.md). -/
def unlistedByte : Byte := 0#8

end Sys2Proof.Config
end

