-- ==== Sys2Proof/Machine/State.lean ====
section
/-! DEFINITION. The state of 16b40, every piece of it that spec/10_state.md names, the reasons a run
can stop, and the state after reset. The spec's OPEN parameters (spec/00_scope.md R7) are held in
`Params`, so that a statement over every state is a statement over every value of them. -/

namespace Sys2Proof.Machine

/-- What the processor is doing (spec/10_state.md R33, spec/60_exceptions.md R195). -/
inductive RunState where
  /-- fetching and executing -/
  | running
  /-- after HLT: "halts processor, waits for interrupts" -/
  | waiting
  /-- after HCF: "halts processor completely" -/
  | dead
deriving DecidableEq, Repr

/-- An interrupt asked for and not yet taken: its id and its information words
(spec/10_state.md R33, spec/60_exceptions.md R183). -/
structure Request where
  id : BitVec 8
  info0 : Word
  info1 : Word
  info2 : Word
deriving DecidableEq, Repr

/-- A port access, as the model records it (spec/42_ports_xregs.md R119). -/
inductive PortEvent where
  | read (port : Word)
  | write (port value : Word)
deriving DecidableEq, Repr

/-- The constants of an implementation (spec/00_scope.md R7). No instruction and no event changes
them. -/
structure Params where
  /-- `CF_VALUE`, what a read of external register 1 returns (R15) -/
  cf : Word
  /-- `MEM_KIW`, what a read of PX[2] returns (R29) -/
  memKiW : Word
  /-- `HANDLER_ADDR`, where an interrupt goes (R177) -/
  handlerAddr : Word
deriving DecidableEq, Repr

/-- Memory: the cells that do not read as an unlisted one, addresses rising. Word `a` of physical
memory is the cells `2 * a` (bits 7:0) and `2 * a + 1` (bits 15:8); no instruction can see that order
(spec/20_memory.md R43; notes/assumptions/1.md). -/
abbrev Memory := List Host.Cell

/-- The canonical form of a memory: addresses strictly rising, no cell that holds what an unlisted
one reads as. Equal memories are then equal lists. -/
abbrev Memory.wf (m : Memory) : Prop :=
  m.Pairwise (fun c c' => c.1 < c'.1) ∧ ∀ c ∈ m, c.2 ≠ Config.unlistedByte

/-- The machine's state. -/
structure State where
  /-- R0 to R7 (R11) -/
  regs : Vector Word 8
  /-- IP, external register 0, "holds address of NEXT instruction" (R13) -/
  ip : Word
  /-- UI, external register 1 when written (R16, R17) -/
  ui : Word
  /-- LR, external register 2 (R18) -/
  lr : Word
  /-- SP, external register 3 (R19) -/
  sp : Word
  /-- OF, external register 4 (R20) -/
  offset : Word
  /-- FL, external register 5: S O C Z (R21) -/
  fl : FlagBits
  /-- F1, external register 6: bit 0 B, bit 1 S, bit 2 s (R23) -/
  f1 : Word
  /-- F2, external register 7: bit 0 P (R24) -/
  f2 : Word
  /-- PX[0], "privilege level" (R27) -/
  px0 : Word
  /-- PX[1], "page table address" (R28) -/
  px1 : Word
  /-- PX[10], "interrupt info: id" (R30) -/
  px10 : Word
  /-- PX[11], "interrupt info: IP" (R30) -/
  px11 : Word
  /-- PX[12], "interrupt info: interruptdependent0" (R30) -/
  px12 : Word
  /-- PX[13], "interrupt info: interruptdependent1" (R30) -/
  px13 : Word
  /-- PX[14], "interrupt info: interruptdependent2" (R30) -/
  px14 : Word
  /-- IE, interrupts enabled (R33, R179) -/
  ie : Bool
  /-- saved_FL, the copy of FL that interrupt entry makes (R33) -/
  savedFl : FlagBits
  /-- saved_UI, the copy of UI that interrupt entry makes (R33) -/
  savedUi : Word
  /-- active_priv, the privilege level in force (R33): 0x0000 supervisor, 0x0003 user -/
  activePriv : Word
  /-- paging_active (R33) -/
  pagingActive : Bool
  /-- pt_base, the page table address in force (R33) -/
  ptBase : Word
  /-- pt_cache[0..15], the page table entries in force (R33, R54) -/
  ptCache : Vector Word 16
  /-- run (R33) -/
  run : RunState
  /-- pending, a set: no request stands in it twice (R33; notes/assumptions/10.md) -/
  pending : List Request
  /-- physical memory (R40, R48) -/
  mem : Memory
  /-- the values that stores have replaced since reset, with the physical word each stood in: what a
  fetch with F2.P = 0 may still see (R59; notes/assumptions/11.md) -/
  replaced : List (PAddr × Word)
  /-- the implementation's constants (R7) -/
  params : Params
  /-- the MODEL's own: for each of the next steps, the ports whose devices then request interrupt 5
  (parameter `EXT_IRQ`, R184; notes/assumptions/9.md) -/
  arrivals : List (List Word)
  /-- the MODEL's own: what the environment answers to the next port reads (parameter `PORTS`, R119;
  notes/assumptions/8.md) -/
  portAnswers : List Word
  /-- the MODEL's own: the port accesses made, oldest first (R119; notes/assumptions/8.md) -/
  portTrace : List PortEvent
  /-- the MODEL's own: how many free values have been drawn (notes/assumptions/7.md) -/
  fresh : Nat
deriving DecidableEq, Repr

/-- The reasons a run stops in a state of which the spec claims nothing
(spec/70_reset_and_hazards.md R207). -/
inductive Fault where
  /-- A synchronous interrupt with this id while IE = 0. Raised by every instruction that raises an
  interrupt, and by a fetch. Safe: the source leaves it undefined (R186, U5; notes/assumptions/13.md). -/
  | doubleFault (id : BitVec 8)
  /-- A write of PX[31] that loads a table whose entry 0 is not present. Raised by PXW. Safe: "if it is
  not then behavior is undefined" (R55, U3; notes/assumptions/15.md). -/
  | pageZeroNotMapped
  /-- An access through an entry whose frame lies beyond physical memory. Raised by fetches, loads and
  stores. Safe: "the behavior is undefined" (R55, U4; notes/assumptions/15.md). -/
  | frameBeyondMemory (pa : PAddr)
deriving DecidableEq, Repr

/-- The uses of a register that the spec has a model refuse, and an arm without a meaning. -/
inductive Refusal where
  /-- An arm of `exec` without a meaning. Raised by `exec` only. Safe: nothing is claimed. -/
  | notModelled (mnemonic : String)
  /-- PXR of a reserved register or of PX[31], "special write only register". Raised by PXR. Safe
  (R31, R32, U7, U10; notes/assumptions/14.md). -/
  | unreadablePX (num : BitVec 5)
  /-- PXW of a reserved register or of PX[2]. Raised by PXW. Safe (R29, R32, U7, U9;
  notes/assumptions/14.md). -/
  | unwritablePX (num : BitVec 5)
  /-- A write of PX[31] while PX[0] holds neither 0x0000 nor 0x0003. Raised by PXW. Safe (R27, R31,
  U8; notes/assumptions/14.md). -/
  | undefinedPrivilege (level : Word)
  /-- A write of F1 or F2 that would set a reserved bit. Raised by XWR. Safe (R25, U6;
  notes/assumptions/14.md). -/
  | reservedFeatureBit (value : Word)
  /-- A write of F1 that would set B where CF.B = 0. Raised by XWR. Safe (R25, U6;
  notes/assumptions/14.md). -/
  | bigIntAbsent (value : Word)
deriving DecidableEq, Repr

/-- What a step or a meaning answers. -/
abbrev Result := Host.Outcome State Fault Refusal

/-- The state after reset (spec/10_state.md R35, spec/70_reset_and_hazards.md R200). IP, the
privilege level, paging and the run state are stated; UI, IE and pending are the spec's decision
D12; every other register is unspecified by the spec and 0 here (DESIGN CHOICE, unsafe,
notes/assumptions/3.md), and nothing is listed in memory (notes/assumptions/2.md). -/
def State.reset : State where
  regs := #v[0, 0, 0, 0, 0, 0, 0, 0]
  ip := 0
  ui := 0
  lr := 0
  sp := 0
  offset := 0
  fl := 0
  f1 := 0
  f2 := 0
  px0 := 0
  px1 := 0
  px10 := 0
  px11 := 0
  px12 := 0
  px13 := 0
  px14 := 0
  ie := false
  savedFl := 0
  savedUi := 0
  activePriv := 0
  pagingActive := false
  ptBase := 0
  ptCache := #v[0, 0, 0, 0, 0, 0, 0, 0, 0, 0, 0, 0, 0, 0, 0, 0]
  run := .running
  pending := []
  mem := []
  replaced := []
  params :=
    { cf := Config.cfValue, memKiW := Config.memKiW, handlerAddr := Config.handlerAddr }
  arrivals := []
  portAnswers := []
  portTrace := []
  fresh := 0

end Sys2Proof.Machine
end

