-- ==== Sys2Proof/Machine/Ops.lean ====
section
/-! DEFINITION. The named operations of the machine: registers, memory and its translation, taking an
interrupt and returning from one, the privileged registers, the external registers and the ports.
Every meaning is written over these. -/

namespace Sys2Proof.Machine

/-! ### General registers (spec/10_state.md R11) -/

/-- `R[i]`. -/
def State.reg (s : State) (i : Reg) : Word := s.regs[i.toNat]

/-- `R[i] <- v`. -/
def State.setReg (s : State) (i : Reg) (v : Word) : State :=
  { s with regs := s.regs.set i.toNat v }

/-! ### Memory cells and words (spec/20_memory.md R40, R43) -/

/-- The byte in cell `a`. -/
def Memory.read : Memory → Nat → Byte
  | [], _ => Config.unlistedByte
  | c :: m, a => if c.1 = a then c.2 else Memory.read m a

/-- The memory with byte `b` in cell `a`; it stays in canonical form (`Memory.wf`). -/
def Memory.write : Memory → Nat → Byte → Memory
  | [], a, b => if b = Config.unlistedByte then [] else [(a, b)]
  | c :: m, a, b =>
    if a < c.1 then
      if b = Config.unlistedByte then c :: m else (a, b) :: c :: m
    else if a = c.1 then
      if b = Config.unlistedByte then m else (a, b) :: m
    else c :: Memory.write m a b

/-- `Phys[pa]`. -/
def Memory.readWord (m : Memory) (pa : PAddr) : Word :=
  m.read (2 * pa.toNat + 1) ++ m.read (2 * pa.toNat)

/-- `Phys[pa] <- v`. -/
def Memory.writeWord (m : Memory) (pa : PAddr) (v : Word) : Memory :=
  (m.write (2 * pa.toNat) (v.extractLsb' 0 8)).write (2 * pa.toNat + 1) (v.extractLsb' 8 8)

/-- The number of words of physical memory: `MEM_KIW * 1024` (R48). -/
def Params.physWords (p : Params) : Nat := p.memKiW.toNat * 1024

/-- A store of a word. The value it replaces is remembered for fetches with F2.P = 0 (R59). -/
def State.storeWord (s : State) (pa : PAddr) (v : Word) : State :=
  { s with
    mem := s.mem.writeWord pa v
    replaced := s.replaced.insert (pa, s.mem.readWord pa) }

/-- Every value the word has held since reset, the newest first (R59, U12). -/
def State.heldValues (s : State) (pa : PAddr) : List Word :=
  s.mem.readWord pa :: (s.replaced.filter (fun e => e.1 == pa)).map Prod.snd

/-! ### Address translation (spec/20_memory.md R49 to R53) -/

/-- What an access is for (R52, R53). -/
inductive AccessKind where
  | read
  | write
  | execute
deriving DecidableEq, Repr

/-- "type of violation: 0 - read, 1 - write, 2 - execute" (R52, R172). -/
def AccessKind.code : AccessKind → Word
  | .read => 0
  | .write => 1
  | .execute => 2

/-- The bit of a page table entry that allows the access (R51). -/
def AccessKind.entryBit : AccessKind → Nat
  | .read => 14
  | .write => 13
  | .execute => 12

/-- What translating an address comes to: a physical address, an interrupt with its first two
information words, or a frame that physical memory does not have. -/
inductive Access where
  | ok (pa : PAddr)
  | interrupt (id : BitVec 8) (info0 info1 : Word)
  | absent (pa : PAddr)
deriving DecidableEq, Repr

/-- The page table entry in force for the page of `va`: page number `va[15:12]` (R49). -/
def State.pageEntry (s : State) (va : Word) : Word :=
  s.ptCache[(va.extractLsb' 12 4).toNat]

/-- `frame ++ offset`, 24 bits (R51). -/
def frameAddr (entry va : Word) : PAddr := entry.extractLsb' 0 12 ++ va.extractLsb' 0 12

/-- `MemRead` and `MemWrite` up to the access itself: unpaged, physical is virtual; paged, a page
that is not present raises interrupt 1, a kind of access that the entry does not allow raises 3
(R52, R53), and a frame beyond physical memory is undefined (R55). -/
def State.translate (s : State) (kind : AccessKind) (va : Word) : Access :=
  if s.pagingActive then
    if (s.pageEntry va).getLsbD 15 = false then .interrupt 1 va 0
    else if (s.pageEntry va).getLsbD kind.entryBit = false then .interrupt 3 va kind.code
    else if (frameAddr (s.pageEntry va) va).toNat < s.params.physWords then
      .ok (frameAddr (s.pageEntry va) va)
    else .absent (frameAddr (s.pageEntry va) va)
  else .ok (va.setWidth 24)

/-! ### Interrupt entry and return (spec/60_exceptions.md R176, R180, R186; spec/40_system.md R91) -/

/-- Interrupt entry, with IP the address PX[11] is to hold (R176). -/
def State.enter (s : State) (r : Request) : State :=
  { s with
    savedFl := s.fl
    savedUi := s.ui
    ie := false
    activePriv := 0x0000
    px0 := 0x0000
    px10 := r.id.setWidth 16
    px11 := s.ip
    px12 := r.info0
    px13 := r.info1
    px14 := r.info2
    ui := 0
    run := .running
    ip := s.params.handlerAddr }

/-- A synchronous interrupt: entry, or the double fault where interrupts are disabled (R176, R186).
`s` is the state at the start of the instruction's execution, so none of its effects has happened
(R175). -/
def State.raise (s : State) (id : BitVec 8) (info0 info1 info2 : Word) : Result :=
  if s.ie then .next (s.enter ⟨id, info0, info1, info2⟩) else .fault (.doubleFault id)

/-- Return from interrupt: the "during IRT" list (spec/40_system.md R91). UI keeps the restored value
(spec/10_state.md R17). -/
def State.leave (s : State) : State :=
  { s with
    activePriv := 0x0003
    px0 := 0x0003
    fl := s.savedFl
    ui := s.savedUi
    ip := s.px11
    ie := true }

/-! ### The shape of a meaning (spec/30_encoding.md R72) -/

/-- The end of an instruction that completes: `UI <- 0` (R17, R72). -/
def State.finish (s : State) : Result := .next { s with ui := 0 }

/-- An extension with a bit in CF (spec/00_scope.md R4, spec/10_state.md R15). -/
inductive Extension where
  | multiply
  | divide
  | relative
  | conditionalMove
deriving DecidableEq, Repr

/-- The extension's bit of CF (R15). -/
def Extension.bit : Extension → Nat
  | .multiply => 0
  | .divide => 1
  | .relative => 2
  | .conditionalMove => 3

/-- CF reports the extension. -/
def State.has (s : State) (e : Extension) : Bool := s.params.cf.getLsbD e.bit

/-- The extension check for the instruction word `w`: interrupt 6 (R81). -/
def State.needs (s : State) (e : Extension) (w : Word) (k : Result) : Result :=
  if s.has e then k else s.raise 6 w 0 0

/-- The privilege check for the instruction word `w`: interrupt 2 (R82). -/
def State.privileged (s : State) (w : Word) (k : Result) : Result :=
  if s.activePriv = 0x0000 then k else s.raise 2 w 0 0

/-- Go on with the physical address of an access, or raise what the translation came to. -/
def State.onAccess (s : State) (kind : AccessKind) (va : Word) (k : PAddr → Result) : Result :=
  match s.translate kind va with
  | .ok pa => k pa
  | .interrupt id info0 info1 => s.raise id info0 info1 0
  | .absent pa => .fault (.frameBeyondMemory pa)

/-- `MemRead(va, read)`, then `k` on the word (R52). -/
def State.loadThen (s : State) (va : Word) (k : Word → Result) : Result :=
  s.onAccess .read va fun pa => k (s.mem.readWord pa)

/-- `MemWrite(va, v)`, then `k` on the state with the word stored (R53). -/
def State.storeThen (s : State) (va v : Word) (k : State → Result) : Result :=
  s.onAccess .write va fun pa => k (s.storeWord pa v)

/-! ### Privileged external registers (spec/10_state.md R26 to R32) -/

/-- `PX[num]` as PXR reads it; none where the spec has a model refuse the read (R31, R32). -/
def State.pxValue (s : State) (num : BitVec 5) : Option Word :=
  match num.toNat with
  | 0 => some s.px0
  | 1 => some s.px1
  | 2 => some s.params.memKiW
  | 10 => some s.px10
  | 11 => some s.px11
  | 12 => some s.px12
  | 13 => some s.px13
  | 14 => some s.px14
  | _ => none

/-- The address of the page table entry of page `n`: `zext(PX[1]) + 0x0010 + n` (R50, R54). -/
def tableEntryAddr (base : Word) (n : Nat) : PAddr := base.setWidth 24 + 0x10#24 + BitVec.ofNat 24 n

/-- The entry of page `n` of the table at `base` (R54). Where `MEM_KIW` leaves out its word, the spec
states no value: a free one (notes/assumptions/22.md). -/
def State.tableEntry (s : State) (base : Word) (n : Nat) : Word :=
  if (tableEntryAddr base n).toNat < s.params.physWords then s.mem.readWord (tableEntryAddr base n)
  else Config.freeWord (s.fresh + n)

/-- The sixteen entries of the page table at `base` (R54). -/
def State.pageTable (s : State) (base : Word) : Vector Word 16 :=
  #v[s.tableEntry base 0, s.tableEntry base 1, s.tableEntry base 2, s.tableEntry base 3,
     s.tableEntry base 4, s.tableEntry base 5, s.tableEntry base 6, s.tableEntry base 7,
     s.tableEntry base 8, s.tableEntry base 9, s.tableEntry base 10, s.tableEntry base 11,
     s.tableEntry base 12, s.tableEntry base 13, s.tableEntry base 14, s.tableEntry base 15]

/-- The state a write of PX[31] leaves: "reread of state registers, reread of PT", IP 0x0000 (R31). A
number is drawn for a free value of each entry, needed or not. -/
def State.refreshed (s : State) : State :=
  { s with
    activePriv := s.px0
    ptBase := s.px1
    pagingActive := true
    ptCache := s.pageTable s.px1
    ip := 0x0000
    fresh := s.fresh + 16 }

/-- A write of PX[31] (R31), whatever PX[1] holds (R54). PX[0] must hold a defined level (U8), and the
entry just loaded must map page 0 (R55, U3). -/
def State.updateState (s : State) : Result :=
  if s.px0 = 0x0000 ∨ s.px0 = 0x0003 then
    if (s.tableEntry s.px1 0).getLsbD 15 then s.refreshed.finish
    else .fault .pageZeroNotMapped
  else .refused (.undefinedPrivilege s.px0)

/-- `PX[num] <- v` (spec/40_system.md R95). -/
def State.pxWrite (s : State) (num : BitVec 5) (v : Word) : Result :=
  match num.toNat with
  | 0 => { s with px0 := v }.finish
  | 1 => { s with px1 := v }.finish
  | 10 => { s with px10 := v }.finish
  | 11 => { s with px11 := v }.finish
  | 12 => { s with px12 := v }.finish
  | 13 => { s with px13 := v }.finish
  | 14 => { s with px14 := v }.finish
  | 31 => s.updateState
  | _ => .refused (.unwritablePX num)

/-! ### External registers (spec/42_ports_xregs.md R117, R118) -/

/-- `E[e]` as XRD reads it, extension R checked elsewhere: number 1 is CF, never UI (R117). -/
def State.xregValue (s : State) (e : Reg) : Word :=
  match e.toNat with
  | 0 => s.ip
  | 1 => s.params.cf
  | 2 => s.lr
  | 3 => s.sp
  | 4 => s.offset
  | 5 => s.fl.setWidth 16
  | 6 => s.f1
  | _ => s.f2

/-- The extension check of XRD and XWR: register 4, OF, needs extension R (R81, R117, R118). -/
def State.xregCheck (s : State) (e : Reg) (w : Word) (k : Result) : Result :=
  if e = 4 then s.needs .relative w k else k

/-- A write of F1. The reserved bits 15:3 stay 0 (spec/10_state.md R25, U6), and B may be set only
where CF.B = 1 (R25). -/
def State.writeF1 (s : State) (v : Word) : Result :=
  if v &&& 0xFFF8#16 ≠ 0 then .refused (.reservedFeatureBit v)
  else if v.getLsbD 0 && !s.params.cf.getLsbD 8 then .refused (.bigIntAbsent v)
  else { s with f1 := v }.finish

/-- A write of F2. The reserved bits 15:1 stay 0 (spec/10_state.md R25, U6). -/
def State.writeF2 (s : State) (v : Word) : Result :=
  if v &&& 0xFFFE#16 ≠ 0 then .refused (.reservedFeatureBit v)
  else { s with f2 := v }.finish

/-- `E[e] <- v` as XWR writes it: number 1 is UI, which this instruction does not clear (R118);
`w` is the instruction word. -/
def State.xregWrite (s : State) (e : Reg) (v w : Word) : Result :=
  s.xregCheck e w <|
    match e.toNat with
    | 0 => { s with ip := v }.finish
    | 1 => .next { s with ui := v }
    | 2 => { s with lr := v }.finish
    | 3 => { s with sp := v }.finish
    | 4 => { s with offset := v }.finish
    | 5 => { s with fl := v.setWidth 4 }.finish
    | 6 => s.writeF1 v
    | _ => s.writeF2 v

/-! ### Ports (spec/42_ports_xregs.md R119) -/

/-- The word the environment answers to the next port read: the next of `portAnswers`, or a free
value. -/
def State.portAnswer (s : State) : Word :=
  match s.portAnswers with
  | [] => Config.freeWord s.fresh
  | v :: _ => v

/-- The state after a read of `port`: the access is recorded, the answer used up. -/
def State.afterPortRead (s : State) (port : Word) : State :=
  match s.portAnswers with
  | [] => { s with portTrace := s.portTrace ++ [PortEvent.read port], fresh := s.fresh + 1 }
  | _ :: rest => { s with portTrace := s.portTrace ++ [PortEvent.read port], portAnswers := rest }

/-- `R[d] <- PortRead(port)`. -/
def State.portRead (s : State) (d : Reg) (port : Word) : Result :=
  ((s.afterPortRead port).setReg d s.portAnswer).finish

/-- `PortWrite(port, v)`: the access is recorded, no processor state changes. -/
def State.portWrite (s : State) (port v : Word) : Result :=
  { s with portTrace := s.portTrace ++ [PortEvent.write port v] }.finish

end Sys2Proof.Machine
end

