-- ==== Sys2Proof/Machine/Flags.lean ====
section
/-! DEFINITION. The flag computations of spec/44_arithmetic.md R135 and R136. -/

namespace Sys2Proof.Machine

/-- FL from its four flags, in the order S O C Z (spec/10_state.md R21). -/
def packFlags (sign overflow carry zero : Bool) : FlagBits :=
  BitVec.ofBool sign ++ BitVec.ofBool overflow ++ BitVec.ofBool carry ++ BitVec.ofBool zero

/-- FL.S -/
def signFlag (fl : FlagBits) : Bool := fl.getLsbD 3

/-- FL.O -/
def overflowFlag (fl : FlagBits) : Bool := fl.getLsbD 2

/-- FL.C -/
def carryFlag (fl : FlagBits) : Bool := fl.getLsbD 1

/-- FL.Z -/
def zeroFlag (fl : FlagBits) : Bool := fl.getLsbD 0

/-- Feature B of F1, "Big int" (spec/10_state.md R23). -/
def State.bigInt (s : State) : Bool := s.f1.getLsbD 0

/-- Feature S of F1, "Sign extension" (R23). -/
def State.signExtends (s : State) : Bool := s.f1.getLsbD 1

/-- Feature s of F1, "Signed arithmetic" (R23). -/
def State.signedArithmetic (s : State) : Bool := s.f1.getLsbD 2

/-- Feature P of F2, "self modifying code Protection" (R24). -/
def State.codeProtected (s : State) : Bool := s.f2.getLsbD 0

/-- `cin`: FL.C before the instruction in big-int mode, else 0 (R136). -/
def State.carryIn (s : State) : Nat := if s.bigInt && carryFlag s.fl then 1 else 0

/-- "signed overflow": the exact signed result does not fit in 16 bits (R135). -/
def outOfRange (t : Int) : Bool := decide (t < -32768) || decide (32767 < t)

/-- The sum of R135, modulo 2^16. -/
def addResult (a b : Word) (cin : Nat) : Word := BitVec.ofNat 16 (a.toNat + b.toNat + cin)

/-- The flags of ADD (R135). -/
def addFlags (a b : Word) (cin : Nat) : FlagBits :=
  packFlags (addResult a b cin).msb
    (outOfRange (a.toInt + b.toInt + cin))
    (decide (65535 < a.toNat + b.toNat + cin))
    (addResult a b cin == 0)

/-- The difference of R135, modulo 2^16. -/
def subResult (a b : Word) (cin : Nat) : Word :=
  BitVec.ofInt 16 ((a.toNat : Int) - b.toNat - cin)

/-- The flags of SUB and CMP: C is the borrow (R135). -/
def subFlags (a b : Word) (cin : Nat) : FlagBits :=
  packFlags (subResult a b cin).msb
    (outOfRange (a.toInt - b.toInt - cin))
    (decide ((a.toNat : Int) - b.toNat - cin < 0))
    (subResult a b cin == 0)

/-- `SZ(r)`: S and Z from the result, O and C "undefined but modified", each a free bit
(R135; notes/assumptions/7.md). -/
def State.setSZ (s : State) (r : Word) : State :=
  { s with
    fl := packFlags r.msb (Config.freeBit s.fresh) (Config.freeBit (s.fresh + 1)) (r == 0)
    fresh := s.fresh + 2 }

end Sys2Proof.Machine
end

