-- ==== Sys2Proof/Machine/Operands.lean ====
section
/-! DEFINITION. Operands: the extended immediate of spec/30_encoding.md R73, the offset address of
spec/20_memory.md R46, and the shapes the two-operand instructions share
(spec/44_arithmetic.md, spec/45_logic_shift.md). -/

namespace Sys2Proof.Machine

/-- `ext_N(v)`: sign-extended where F1.S = 1, else zero-extended (R73). -/
def State.extendImm {n : Nat} (s : State) (v : BitVec n) : Word :=
  if s.signExtends then v.signExtend 16 else v.setWidth 16

/-- `immx_N(v) = ext_N(v) | (UI[7:0] << 8)`, with UI as it is at the start of the instruction
(R73, R75). -/
def State.immx {n : Nat} (s : State) (v : BitVec n) : Word :=
  s.extendImm v ||| ((s.ui &&& 0x00FF#16) <<< 8)

/-- `OF + off`, modulo 2^16 (R46). -/
def State.offsetAddr (s : State) (off : Word) : Word := s.offset + off

/-- The address PSH stores at: `SP - 1`, modulo 2^16 (R46, R47). -/
def State.pushAddr (s : State) : Word := s.sp - 1

/-- `R[d] <- r ; SZ(r)`: the end of MUL, DIV, NOT, AND, ORR, XOR, SHL, SHR. -/
def State.writeSZ (s : State) (d : Reg) (r : Word) : Result := ((s.setReg d r).setSZ r).finish

/-- `SZ(r)` alone: the end of TST (R140). -/
def State.testSZ (s : State) (r : Word) : Result := (s.setSZ r).finish

/-- `R[d] <- r`, no flags: the end of MOV, PXR, XRD. -/
def State.writeReg (s : State) (d : Reg) (r : Word) : Result := (s.setReg d r).finish

/-- `R[d] <- r ; FL <- fl`: the end of ADD and SUB (R142, R143). -/
def State.writeFlags (s : State) (d : Reg) (r : Word) (fl : FlagBits) : Result :=
  { s.setReg d r with fl := fl }.finish

/-- `IP <- IP + off`, modulo 2^16, with IP the address of the next instruction (spec/41_control.md
R100). -/
def State.jumpBy (s : State) (off : Word) : State := { s with ip := s.ip + off }

end Sys2Proof.Machine
end

