-- ==== Sys2Proof/Machine/Cycle.lean ====
section
/-! DEFINITION. One step of the processor: the requests that arrive, the delivery of an external
interrupt (spec/60_exceptions.md R183), the fetch (spec/20_memory.md R59) and the run of the decoded
instruction (spec/30_encoding.md R72). The meaning of instructions is an argument here; Step.lean
gives it `exec`. -/

namespace Sys2Proof.Machine

/-! ### External interrupts -/

/-- The request of interrupt 5 by the device at `port` (R184). -/
def ioRequest (port : Word) : Request := ⟨5, port, 0, 0⟩

/-- A request joins the set `pending`: one that already stands in it does not stand twice
(notes/assumptions/10.md). -/
def addRequest (pending : List Request) (r : Request) : List Request :=
  if r ∈ pending then pending else pending ++ [r]

/-- The requests of this step's devices join `pending` (R184; notes/assumptions/9.md). -/
def State.receive (s : State) : State :=
  match s.arrivals with
  | [] => s
  | ports :: later =>
    { s with arrivals := later, pending := (ports.map ioRequest).foldl addRequest s.pending }

/-- "the lowest number takes priority"; among equal ids the one that came first (R174). -/
def lowestRequest : List Request → Option Request
  | [] => none
  | r :: rest =>
    match lowestRequest rest with
    | none => some r
    | some r' => if r'.id.toNat < r.id.toNat then some r' else some r

/-- The external interrupt to be taken now, if any (R183). -/
def State.deliverable (s : State) : Option Request :=
  if s.ie then lowestRequest s.pending else none

/-- A pending request is taken: removed from `pending`, and entered with PX[11] the address of the
instruction not yet fetched (R176, R183). -/
def State.takeRequest (s : State) (r : Request) : State :=
  { s with pending := s.pending.erase r }.enter r

/-! ### Fetch -/

/-- The word a fetch from physical word `pa` returns. F2.P = 1, or a word never stored to: the word
in memory. Otherwise a free choice among the values the word has held since reset (R59, U12). -/
def State.fetchedWord (s : State) (pa : PAddr) : Word :=
  if s.codeProtected then s.mem.readWord pa
  else
    match s.heldValues pa with
    | [v] => v
    | vs => vs.getD (Config.freeChoice s.fresh % vs.length) (s.mem.readWord pa)

/-- The free values a fetch draws: one, where there was a choice. -/
def State.afterFetch (s : State) (pa : PAddr) : State :=
  if s.codeProtected then s
  else
    match s.heldValues pa with
    | [_] => s
    | _ => { s with fresh := s.fresh + 1 }

/-- `IP <- a + 1`, modulo 2^16, "done first" (R72). -/
def State.advanceIp (s : State) : State := { s with ip := s.ip + 1 }

/-- Decode and run a fetched word; a word that is no instruction raises interrupt 6 (R72, R77). -/
def State.runWord (ex : Instr → State → Result) (s : State) (w : Word) : Result :=
  match decode w with
  | .ok i => ex i s
  | .error _ => s.raise 6 w 0 0

/-- Fetch at IP and run: "one step of the processor" (R72). A fetch that raises does so with IP
already advanced. -/
def State.fetchAndRun (ex : Instr → State → Result) (s : State) : Result :=
  s.advanceIp.onAccess .execute s.ip fun pa =>
    (s.advanceIp.afterFetch pa).runWord ex (s.fetchedWord pa)

/-! ### The step -/

/-- One step (R183). After HCF no step is taken: the state stays as it is (spec/40_system.md R93). -/
def cycle (ex : Instr → State → Result) (s : State) : Result :=
  match s.run with
  | .dead => .next s
  | .running =>
    match s.receive.deliverable with
    | some r => .next (s.receive.takeRequest r)
    | none => s.receive.fetchAndRun ex
  | .waiting =>
    match s.receive.deliverable with
    | some r => .next (s.receive.takeRequest r)
    | none => .next s.receive

/-- `s` with the instruction word `w` where the next fetch reads it, as a loader leaves it: no store
of the program has touched the word (R201; notes/assumptions/17.md). -/
def State.placeWord (s : State) (w : Word) : State :=
  match s.translate .execute s.ip with
  | .ok pa =>
    { s with
      mem := s.mem.writeWord pa w
      replaced := s.replaced.filter fun e => e.1 != pa }
  | _ => s

end Sys2Proof.Machine
end

