-- ==== Sys2Proof/Machine/Arithmetic.lean ====
section
/-! DEFINITION. Arithmetic, compare, test and move (spec/44_arithmetic.md R135 to R143). -/

namespace Sys2Proof.Machine

/-- The low 16 bits of the product; the same for signed and unsigned operands (R137). -/
def product (a b : Word) : Word := BitVec.ofNat 16 (a.toNat * b.toNat)

/-- The quotient: floor of the unsigned one, or the signed one truncated toward zero, modulo 2^16
(R139). -/
def quotient (signed : Bool) (a b : Word) : Word :=
  if signed then BitVec.ofInt 16 (a.toInt.tdiv b.toInt) else BitVec.ofNat 16 (a.toNat / b.toNat)

/-- `R[d] <- R[d] * b` (R137). -/
def State.mulBy (s : State) (d : Reg) (b : Word) : Result := s.writeSZ d (product (s.reg d) b)

/-- `FL <- flags of R[d] - b` (R138). -/
def State.compareWith (s : State) (d : Reg) (b : Word) : Result :=
  { s with fl := subFlags (s.reg d) b s.carryIn }.finish

/-- `R[d] <- R[d] / b`, or interrupt 4 for `b = 0` (R139). -/
def State.divBy (s : State) (d : Reg) (b : Word) : Result :=
  if b = 0 then s.raise 4 0 0 0 else s.writeSZ d (quotient s.signedArithmetic (s.reg d) b)

/-- `SZ(R[d] AND b)` (R140). -/
def State.testWith (s : State) (d : Reg) (b : Word) : Result := s.testSZ (s.reg d &&& b)

/-- `R[d] <- R[d] + b`, with the carry in big-int mode (R136, R142). -/
def State.addTo (s : State) (d : Reg) (b : Word) : Result :=
  s.writeFlags d (addResult (s.reg d) b s.carryIn) (addFlags (s.reg d) b s.carryIn)

/-- `R[d] <- R[d] - b`, with the borrow in big-int mode (R136, R143). -/
def State.subFrom (s : State) (d : Reg) (b : Word) : Result :=
  s.writeFlags d (subResult (s.reg d) b s.carryIn) (subFlags (s.reg d) b s.carryIn)

/-- MUL d, s (R137). -/
def execMulReg (d src : Reg) (s : State) : Result :=
  s.needs .multiply (encode (.mulReg d src)) (s.mulBy d (s.reg src))

/-- MUL d, imm8 (R137). -/
def execMulImm (d : Reg) (imm : BitVec 8) (s : State) : Result :=
  s.needs .multiply (encode (.mulImm d imm)) (s.mulBy d (s.immx imm))

/-- CMP d, s (R138). -/
def execCmpReg (d src : Reg) (s : State) : Result :=
  s.compareWith d (s.reg src)

/-- CMP d, imm8 (R138). -/
def execCmpImm (d : Reg) (imm : BitVec 8) (s : State) : Result :=
  s.compareWith d (s.immx imm)

/-- DIV d, s (R139). -/
def execDivReg (d src : Reg) (s : State) : Result :=
  s.needs .divide (encode (.divReg d src)) (s.divBy d (s.reg src))

/-- DIV d, imm8 (R139). -/
def execDivImm (d : Reg) (imm : BitVec 8) (s : State) : Result :=
  s.needs .divide (encode (.divImm d imm)) (s.divBy d (s.immx imm))

/-- TST d, s (R140). -/
def execTstReg (d src : Reg) (s : State) : Result :=
  s.testWith d (s.reg src)

/-- TST d, imm8 (R140). -/
def execTstImm (d : Reg) (imm : BitVec 8) (s : State) : Result :=
  s.testWith d (s.immx imm)

/-- MOV d, s (R141). -/
def execMovReg (d src : Reg) (s : State) : Result :=
  s.writeReg d (s.reg src)

/-- MOV d, imm8 (R141). -/
def execMovImm (d : Reg) (imm : BitVec 8) (s : State) : Result :=
  s.writeReg d (s.immx imm)

/-- ADD d, s (R142). -/
def execAddReg (d src : Reg) (s : State) : Result :=
  s.addTo d (s.reg src)

/-- ADD d, imm8 (R142). -/
def execAddImm (d : Reg) (imm : BitVec 8) (s : State) : Result :=
  s.addTo d (s.immx imm)

/-- SUB d, s (R143). -/
def execSubReg (d src : Reg) (s : State) : Result :=
  s.subFrom d (s.reg src)

/-- SUB d, imm8 (R143). -/
def execSubImm (d : Reg) (imm : BitVec 8) (s : State) : Result :=
  s.subFrom d (s.immx imm)

end Sys2Proof.Machine
end

