-- ==== Sys2Proof/Machine/Conditions.lean ====
section
/-! DEFINITION. The condition codes LEG. The two tables of spec/41_control.md R109 and R110 are
configuration, held as data (R111): another reading of a row is a change of the data alone. -/

namespace Sys2Proof

/-- What a row of a condition table asks of FL, in the words of the source's tables (R109, R110). -/
inductive Condition where
  /-- "jump cannot occur", "move cannot occur" -/
  | never
  /-- "jump occurs always", "move occurs always" -/
  | always
  /-- "Z = 0" -/
  | zeroClear
  /-- "Z /= 0" -/
  | zeroSet
  /-- C = 0 -/
  | carryClear
  /-- C = 1 -/
  | carrySet
  /-- "C = 0 AND Z = 0" -/
  | carryClearAndZeroClear
  /-- C = 1 or Z = 1 -/
  | carrySetOrZeroSet
  /-- "S = O" -/
  | signIsOverflow
  /-- "S /= O" -/
  | signIsNotOverflow
  /-- "S = O AND Z = 0" -/
  | signIsOverflowAndZeroClear
  /-- "S /= O ORR Z /= 0" -/
  | signIsNotOverflowOrZeroSet
deriving DecidableEq, Repr

namespace Config

/-- Rows 010 and 101 of both tables, as the source prints them four times (R111). With the two
exchanged, the tables have the other reading (spec/92_eei_decisions.md D19; notes/assumptions/19.md). -/
def rows010And101 : Condition × Condition := (.zeroClear, .zeroSet)

/-- The unsigned table, rows 000 to 111 (R109). -/
def unsignedConditions : Vector Condition 8 :=
  #v[.never, .carryClearAndZeroClear, rows010And101.1, .carryClear,
     .carrySet, rows010And101.2, .carrySetOrZeroSet, .always]

/-- The signed table, rows 000 to 111 (R110). -/
def signedConditions : Vector Condition 8 :=
  #v[.never, .signIsOverflowAndZeroClear, rows010And101.1, .signIsOverflow,
     .signIsNotOverflow, rows010And101.2, .signIsNotOverflowOrZeroSet, .always]

end Config

namespace Machine

/-- FL meets the condition. -/
def conditionHolds (c : Condition) (fl : FlagBits) : Bool :=
  match c with
  | .never => false
  | .always => true
  | .zeroClear => !zeroFlag fl
  | .zeroSet => zeroFlag fl
  | .carryClear => !carryFlag fl
  | .carrySet => carryFlag fl
  | .carryClearAndZeroClear => !carryFlag fl && !zeroFlag fl
  | .carrySetOrZeroSet => carryFlag fl || zeroFlag fl
  | .signIsOverflow => signFlag fl == overflowFlag fl
  | .signIsNotOverflow => signFlag fl != overflowFlag fl
  | .signIsOverflowAndZeroClear => (signFlag fl == overflowFlag fl) && !zeroFlag fl
  | .signIsNotOverflowOrZeroSet => (signFlag fl != overflowFlag fl) || zeroFlag fl

/-- `cond_u(LEG, FL)`, used by JCU and MCU (R109). -/
def condU (leg : BitVec 3) (fl : FlagBits) : Bool :=
  conditionHolds Config.unsignedConditions[leg.toNat] fl

/-- `cond_s(LEG, FL)`, used by JCS and MCS (R110). -/
def condS (leg : BitVec 3) (fl : FlagBits) : Bool :=
  conditionHolds Config.signedConditions[leg.toNat] fl

end Machine

end Sys2Proof
end

