-- ==== Sys2Proof/Machine/CondMove.lean ====
section
/-! DEFINITION. Conditional move, extension C (spec/46_cond_move.md R160, R161). -/

namespace Sys2Proof.Machine

/-- `R[d] <- R[src]` where `cond` holds, else nothing; UI is cleared either way (R160, R161). -/
def State.moveIf (s : State) (cond : Bool) (d src : Reg) : Result :=
  if cond then s.writeReg d (s.reg src) else s.finish

/-- MCU (R160). -/
def execMcu (leg : BitVec 3) (d src : Reg) (s : State) : Result :=
  s.needs .conditionalMove (encode (.mcu leg d src)) (s.moveIf (condU leg s.fl) d src)

/-- MCS (R161). -/
def execMcs (leg : BitVec 3) (d src : Reg) (s : State) : Result :=
  s.needs .conditionalMove (encode (.mcs leg d src)) (s.moveIf (condS leg s.fl) d src)

end Sys2Proof.Machine
end

