-- ==== Sys2Proof/Machine/Control.lean ====
section
/-! DEFINITION. Control transfer (spec/41_control.md R100 to R108). -/

namespace Sys2Proof.Machine

/-- CAL with either kind of operand: `LR <- IP ; IP <- IP + off` (R101, R105). -/
def State.callBy (s : State) (off : Word) : Result := { s.jumpBy off with lr := s.ip }.finish

/-- JCU and JCS: the jump is made where `cond` holds; UI is cleared either way (R103, R104). -/
def State.jumpIf (s : State) (cond : Bool) (off : Word) : Result :=
  if cond then (s.jumpBy off).finish else s.finish

/-- CAL imm11 (R101). -/
def execCalImm (imm : BitVec 11) (s : State) : Result := s.callBy (s.immx imm)

/-- JMP imm11 (R102). -/
def execJmpImm (imm : BitVec 11) (s : State) : Result := (s.jumpBy (s.immx imm)).finish

/-- JCU (R103). -/
def execJcu (leg : BitVec 3) (imm : BitVec 8) (s : State) : Result :=
  s.jumpIf (condU leg s.fl) (s.immx imm)

/-- JCS (R104). -/
def execJcs (leg : BitVec 3) (imm : BitVec 8) (s : State) : Result :=
  s.jumpIf (condS leg s.fl) (s.immx imm)

/-- CAL s (R105): UI does not apply to a register operand. -/
def execCalReg (src : Reg) (_low : BitVec 5) (s : State) : Result := s.callBy (s.reg src)

/-- JMP s (R106). -/
def execJmpReg (src : Reg) (_low : BitVec 5) (s : State) : Result := (s.jumpBy (s.reg src)).finish

/-- RET (R107): `IP <- LR`, `FL <- SOCZ`. -/
def execRet (socz : FlagBits) (s : State) : Result := { s with ip := s.lr, fl := socz }.finish

/-- NOP (R108). -/
def execNop (_low : BitVec 8) (s : State) : Result := s.finish

end Sys2Proof.Machine
end

