-- ==== Sys2Proof/Machine/Logic.lean ====
section
/-! DEFINITION. Logic and shifts (spec/45_logic_shift.md R150 to R155). -/

namespace Sys2Proof.Machine

/-- The amount is the whole operand, unsigned; above 15 the result is 0 (R154). -/
def shiftLeft (a b : Word) : Word :=
  if 15 < b.toNat then 0 else BitVec.ofNat 16 (a.toNat * 2 ^ b.toNat)

/-- Logical or, where F1.s = 1, arithmetic; the amount is unsigned (R155). -/
def shiftRight (signed : Bool) (a b : Word) : Word :=
  if signed then
    if 15 < b.toNat then (if a.getLsbD 15 then 0xFFFF else 0x0000)
    else BitVec.ofInt 16 (a.toInt / 2 ^ b.toNat)
  else if 15 < b.toNat then 0 else BitVec.ofNat 16 (a.toNat / 2 ^ b.toNat)

/-- `R[d] <- NOT b` (R150). -/
def State.notTo (s : State) (d : Reg) (b : Word) : Result := s.writeSZ d (~~~b)

/-- `R[d] <- R[d] AND b` (R151). -/
def State.andTo (s : State) (d : Reg) (b : Word) : Result := s.writeSZ d (s.reg d &&& b)

/-- `R[d] <- R[d] OR b` (R152). -/
def State.orrTo (s : State) (d : Reg) (b : Word) : Result := s.writeSZ d (s.reg d ||| b)

/-- `R[d] <- R[d] XOR b` (R153). -/
def State.xorTo (s : State) (d : Reg) (b : Word) : Result := s.writeSZ d (s.reg d ^^^ b)

/-- `R[d] <- R[d] << b` (R154). -/
def State.shlBy (s : State) (d : Reg) (b : Word) : Result := s.writeSZ d (shiftLeft (s.reg d) b)

/-- `R[d] <- R[d] >> b` (R155). -/
def State.shrBy (s : State) (d : Reg) (b : Word) : Result :=
  s.writeSZ d (shiftRight s.signedArithmetic (s.reg d) b)

/-- NOT d, s (R150). -/
def execNotReg (d src : Reg) (s : State) : Result :=
  s.notTo d (s.reg src)

/-- NOT d, imm8 (R150). -/
def execNotImm (d : Reg) (imm : BitVec 8) (s : State) : Result :=
  s.notTo d (s.immx imm)

/-- AND d, s (R151). -/
def execAndReg (d src : Reg) (s : State) : Result :=
  s.andTo d (s.reg src)

/-- AND d, imm8 (R151). -/
def execAndImm (d : Reg) (imm : BitVec 8) (s : State) : Result :=
  s.andTo d (s.immx imm)

/-- ORR d, s (R152). -/
def execOrrReg (d src : Reg) (s : State) : Result :=
  s.orrTo d (s.reg src)

/-- ORR d, imm8 (R152). -/
def execOrrImm (d : Reg) (imm : BitVec 8) (s : State) : Result :=
  s.orrTo d (s.immx imm)

/-- XOR d, s (R153). -/
def execXorReg (d src : Reg) (s : State) : Result :=
  s.xorTo d (s.reg src)

/-- XOR d, imm8 (R153). -/
def execXorImm (d : Reg) (imm : BitVec 8) (s : State) : Result :=
  s.xorTo d (s.immx imm)

/-- SHL d, s (R154). -/
def execShlReg (d src : Reg) (s : State) : Result :=
  s.shlBy d (s.reg src)

/-- SHL d, imm8 (R154). -/
def execShlImm (d : Reg) (imm : BitVec 8) (s : State) : Result :=
  s.shlBy d (s.immx imm)

/-- SHR d, s (R155). -/
def execShrReg (d src : Reg) (s : State) : Result :=
  s.shrBy d (s.reg src)

/-- SHR d, imm8 (R155). -/
def execShrImm (d : Reg) (imm : BitVec 8) (s : State) : Result :=
  s.shrBy d (s.immx imm)

end Sys2Proof.Machine
end

