-- ==== Sys2Proof/Machine/MemoryAccess.lean ====
section
/-! DEFINITION. Memory access (spec/43_memory_access.md R125 to R130). -/

namespace Sys2Proof.Machine

/-- A load into R[d] (R125, R127). -/
def State.loadTo (s : State) (d : Reg) (va : Word) : Result :=
  s.loadThen va fun v => s.writeReg d v

/-- A store of R[src] (R126, R128). -/
def State.storeFrom (s : State) (va : Word) (src : Reg) : Result :=
  s.storeThen va (s.reg src) State.finish

/-- MRD d, s (R125). -/
def execMrdReg (d src : Reg) (s : State) : Result := s.loadTo d (s.reg src)

/-- MRD d, imm8 (R125). -/
def execMrdImm (d : Reg) (imm : BitVec 8) (s : State) : Result := s.loadTo d (s.immx imm)

/-- MWR d, s (R126): the address is R[d], the datum R[src]. -/
def execMwrReg (d src : Reg) (s : State) : Result := s.storeFrom (s.reg d) src

/-- MWR imm8, s (R126): the address is the immediate. -/
def execMwrImm (imm : BitVec 8) (src : Reg) (s : State) : Result := s.storeFrom (s.immx imm) src

/-- MRO d, s (R127). -/
def execMroReg (d src : Reg) (s : State) : Result :=
  s.needs .relative (encode (.mroReg d src)) (s.loadTo d (s.offsetAddr (s.reg src)))

/-- MRO d, imm8 (R127). -/
def execMroImm (d : Reg) (imm : BitVec 8) (s : State) : Result :=
  s.needs .relative (encode (.mroImm d imm)) (s.loadTo d (s.offsetAddr (s.immx imm)))

/-- MWO d, s (R128). -/
def execMwoReg (d src : Reg) (s : State) : Result :=
  s.needs .relative (encode (.mwoReg d src)) (s.storeFrom (s.offsetAddr (s.reg d)) src)

/-- MWO imm8, s (R128). -/
def execMwoImm (imm : BitVec 8) (src : Reg) (s : State) : Result :=
  s.needs .relative (encode (.mwoImm imm src)) (s.storeFrom (s.offsetAddr (s.immx imm)) src)

/-- POP d (R129): "POP first gets value THEN increments SP". -/
def execPop (d : Reg) (_low : BitVec 5) (s : State) : Result :=
  s.loadThen s.sp fun v => { s.setReg d v with sp := s.sp + 1 }.finish

/-- PSH s (R130): SP moves only where the store is made. -/
def execPsh (src : Reg) (_low : BitVec 5) (s : State) : Result :=
  s.storeThen s.pushAddr (s.reg src) fun t => { t with sp := s.pushAddr }.finish

end Sys2Proof.Machine
end

