-- ==== Sys2Proof/Machine/Ports.lean ====
section
/-! DEFINITION. Port and external-register access (spec/42_ports_xregs.md R115 to R119). -/

namespace Sys2Proof.Machine

/-- PRD d, s (R115). -/
def execPrdReg (d src : Reg) (s : State) : Result :=
  s.privileged (encode (.prdReg d src)) (s.portRead d (s.reg src))

/-- PRD d, imm8 (R115): the port number is extended like every imm8 (R74). -/
def execPrdImm (d : Reg) (imm : BitVec 8) (s : State) : Result :=
  s.privileged (encode (.prdImm d imm)) (s.portRead d (s.immx imm))

/-- PWR d, s (R116): the port number is R[d], the datum R[src]. -/
def execPwrReg (d src : Reg) (s : State) : Result :=
  s.privileged (encode (.pwrReg d src)) (s.portWrite (s.reg d) (s.reg src))

/-- PWR imm8, s (R116). -/
def execPwrImm (imm : BitVec 8) (src : Reg) (s : State) : Result :=
  s.privileged (encode (.pwrImm imm src)) (s.portWrite (s.immx imm) (s.reg src))

/-- XRD d, e (R117): `R[d] <- E[e]`. -/
def execXrd (d e : Reg) (s : State) : Result :=
  s.xregCheck e (encode (.xrd d e)) (s.writeReg d (s.xregValue e))

/-- XWR e, s (R118): `E[e] <- R[src]`. -/
def execXwrReg (e src : Reg) (s : State) : Result :=
  s.xregWrite e (s.reg src) (encode (.xwrReg e src))

/-- XWR e, imm8 (R118): the immediate is extended under the old F1 and the UI then pending. -/
def execXwrImm (e : Reg) (imm : BitVec 8) (s : State) : Result :=
  s.xregWrite e (s.immx imm) (encode (.xwrImm e imm))

end Sys2Proof.Machine
end

