-- ==== Sys2Proof/Machine/System.lean ====
section
/-! DEFINITION. The system instructions and the programmable slots (spec/40_system.md R90 to R96). -/

namespace Sys2Proof.Machine

/-- INT (R90): raises the interrupt its operand names; UI and F1.S do not apply (R74), the
information words are 0. -/
def execInt (imm : BitVec 8) (s : State) : Result := s.raise imm 0 0 0

/-- IRT (R91). -/
def execIrt (low : BitVec 8) (s : State) : Result :=
  s.privileged (encode (.irt low)) (.next s.leave)

/-- HLT (R92): "enables interrupts", "halts processor". -/
def execHlt (low : BitVec 8) (s : State) : Result :=
  s.privileged (encode (.hlt low)) { s with ie := true, run := .waiting }.finish

/-- HCF (R93): "disables interrupts", "halts processor". -/
def execHcf (low : BitVec 8) (s : State) : Result :=
  s.privileged (encode (.hcf low)) { s with ie := false, run := .dead }.finish

/-- PXR (R94): `R[d] <- PX[num]`. -/
def execPxr (d : Reg) (num : BitVec 5) (s : State) : Result :=
  s.privileged (encode (.pxr d num)) <|
    match s.pxValue num with
    | some v => s.writeReg d v
    | none => .refused (.unreadablePX num)

/-- PXW (R95): `PX[num] <- R[src]`, or the state update of PX[31] (R31). -/
def execPxw (num : BitVec 5) (src : Reg) (s : State) : Result :=
  s.privileged (encode (.pxw num src)) (s.pxWrite num (s.reg src))

/-- Extension P is absent, so a programmable slot raises interrupt 6 with its word (R81, R96). -/
def State.unsupported (s : State) (w : Word) : Result := s.raise 6 w 0 0

/-- Programmable instruction #0 (R96). -/
def execProgrammable0 (low : BitVec 8) (s : State) : Result :=
  s.unsupported (encode (.programmable0 low))

/-- Programmable instruction #1 (R96). -/
def execProgrammable1 (low : BitVec 8) (s : State) : Result :=
  s.unsupported (encode (.programmable1 low))

/-- Programmable instruction #2 (R96). -/
def execProgrammable2 (low : BitVec 8) (s : State) : Result :=
  s.unsupported (encode (.programmable2 low))

/-- Programmable instruction #3 (R96). -/
def execProgrammable3 (low : BitVec 8) (s : State) : Result :=
  s.unsupported (encode (.programmable3 low))

/-- Programmable instruction #4 (R96). -/
def execProgrammable4 (low : BitVec 8) (s : State) : Result :=
  s.unsupported (encode (.programmable4 low))

/-- Programmable instruction #5 (R96). -/
def execProgrammable5 (low : BitVec 8) (s : State) : Result :=
  s.unsupported (encode (.programmable5 low))

/-- Programmable instruction #6 (R96). -/
def execProgrammable6 (low : BitVec 8) (s : State) : Result :=
  s.unsupported (encode (.programmable6 low))

/-- Programmable instruction #7 (R96). -/
def execProgrammable7 (low : BitVec 8) (s : State) : Result :=
  s.unsupported (encode (.programmable7 low))

/-- Programmable instruction #8 (R96). -/
def execProgrammable8 (low : BitVec 8) (s : State) : Result :=
  s.unsupported (encode (.programmable8 low))

/-- Programmable instruction #9 (R96). -/
def execProgrammable9 (low : BitVec 8) (s : State) : Result :=
  s.unsupported (encode (.programmable9 low))

/-- Programmable instruction #A (R96). -/
def execProgrammableA (low : BitVec 8) (s : State) : Result :=
  s.unsupported (encode (.programmableA low))

/-- Programmable instruction #B (R96). -/
def execProgrammableB (low : BitVec 8) (s : State) : Result :=
  s.unsupported (encode (.programmableB low))

/-- Programmable instruction #C (R96). -/
def execProgrammableC (low : BitVec 8) (s : State) : Result :=
  s.unsupported (encode (.programmableC low))

/-- Programmable instruction #D (R96). -/
def execProgrammableD (low : BitVec 8) (s : State) : Result :=
  s.unsupported (encode (.programmableD low))

/-- Programmable instruction #E (R96). -/
def execProgrammableE (low : BitVec 8) (s : State) : Result :=
  s.unsupported (encode (.programmableE low))

/-- Programmable instruction #F (R96). -/
def execProgrammableF (low : BitVec 8) (s : State) : Result :=
  s.unsupported (encode (.programmableF low))

end Sys2Proof.Machine
end

