-- ==== Sys2Proof/Machine/Dispatch.lean ====
section
/-! DEFINITION. One arm per instruction: the meaning of the instruction at a state whose IP already
holds the address of the next instruction (spec/30_encoding.md R72). -/

namespace Sys2Proof.Machine

open Sys2Proof

def exec (i : Instr) (s : State) : Host.Outcome State Fault Refusal :=
  match i with
  | .int imm => Sys2Proof.Machine.execInt imm s
  | .irt low => Sys2Proof.Machine.execIrt low s
  | .hlt low => Sys2Proof.Machine.execHlt low s
  | .hcf low => Sys2Proof.Machine.execHcf low s
  | .pxr d num => Sys2Proof.Machine.execPxr d num s
  | .pxw num src => Sys2Proof.Machine.execPxw num src s
  | .calImm imm => Sys2Proof.Machine.execCalImm imm s
  | .jmpImm imm => Sys2Proof.Machine.execJmpImm imm s
  | .jcu leg imm => Sys2Proof.Machine.execJcu leg imm s
  | .jcs leg imm => Sys2Proof.Machine.execJcs leg imm s
  | .prdReg d src => Sys2Proof.Machine.execPrdReg d src s
  | .prdImm d imm => Sys2Proof.Machine.execPrdImm d imm s
  | .pwrReg d src => Sys2Proof.Machine.execPwrReg d src s
  | .pwrImm imm src => Sys2Proof.Machine.execPwrImm imm src s
  | .xrd d e => Sys2Proof.Machine.execXrd d e s
  | .xwrReg e src => Sys2Proof.Machine.execXwrReg e src s
  | .xwrImm e imm => Sys2Proof.Machine.execXwrImm e imm s
  | .mrdReg d src => Sys2Proof.Machine.execMrdReg d src s
  | .mrdImm d imm => Sys2Proof.Machine.execMrdImm d imm s
  | .mwrReg d src => Sys2Proof.Machine.execMwrReg d src s
  | .mwrImm imm src => Sys2Proof.Machine.execMwrImm imm src s
  | .mroReg d src => Sys2Proof.Machine.execMroReg d src s
  | .mroImm d imm => Sys2Proof.Machine.execMroImm d imm s
  | .mwoReg d src => Sys2Proof.Machine.execMwoReg d src s
  | .mwoImm imm src => Sys2Proof.Machine.execMwoImm imm src s
  | .mulReg d src => Sys2Proof.Machine.execMulReg d src s
  | .mulImm d imm => Sys2Proof.Machine.execMulImm d imm s
  | .cmpReg d src => Sys2Proof.Machine.execCmpReg d src s
  | .cmpImm d imm => Sys2Proof.Machine.execCmpImm d imm s
  | .divReg d src => Sys2Proof.Machine.execDivReg d src s
  | .divImm d imm => Sys2Proof.Machine.execDivImm d imm s
  | .tstReg d src => Sys2Proof.Machine.execTstReg d src s
  | .tstImm d imm => Sys2Proof.Machine.execTstImm d imm s
  | .movReg d src => Sys2Proof.Machine.execMovReg d src s
  | .movImm d imm => Sys2Proof.Machine.execMovImm d imm s
  | .pop d low => Sys2Proof.Machine.execPop d low s
  | .psh src low => Sys2Proof.Machine.execPsh src low s
  | .calReg src low => Sys2Proof.Machine.execCalReg src low s
  | .jmpReg src low => Sys2Proof.Machine.execJmpReg src low s
  | .ret socz => Sys2Proof.Machine.execRet socz s
  | .nop low => Sys2Proof.Machine.execNop low s
  | .mcu leg d src => Sys2Proof.Machine.execMcu leg d src s
  | .mcs leg d src => Sys2Proof.Machine.execMcs leg d src s
  | .addReg d src => Sys2Proof.Machine.execAddReg d src s
  | .addImm d imm => Sys2Proof.Machine.execAddImm d imm s
  | .subReg d src => Sys2Proof.Machine.execSubReg d src s
  | .subImm d imm => Sys2Proof.Machine.execSubImm d imm s
  | .notReg d src => Sys2Proof.Machine.execNotReg d src s
  | .notImm d imm => Sys2Proof.Machine.execNotImm d imm s
  | .andReg d src => Sys2Proof.Machine.execAndReg d src s
  | .andImm d imm => Sys2Proof.Machine.execAndImm d imm s
  | .orrReg d src => Sys2Proof.Machine.execOrrReg d src s
  | .orrImm d imm => Sys2Proof.Machine.execOrrImm d imm s
  | .xorReg d src => Sys2Proof.Machine.execXorReg d src s
  | .xorImm d imm => Sys2Proof.Machine.execXorImm d imm s
  | .shlReg d src => Sys2Proof.Machine.execShlReg d src s
  | .shlImm d imm => Sys2Proof.Machine.execShlImm d imm s
  | .shrReg d src => Sys2Proof.Machine.execShrReg d src s
  | .shrImm d imm => Sys2Proof.Machine.execShrImm d imm s
  | .programmable0 low => Sys2Proof.Machine.execProgrammable0 low s
  | .programmable1 low => Sys2Proof.Machine.execProgrammable1 low s
  | .programmable2 low => Sys2Proof.Machine.execProgrammable2 low s
  | .programmable3 low => Sys2Proof.Machine.execProgrammable3 low s
  | .programmable4 low => Sys2Proof.Machine.execProgrammable4 low s
  | .programmable5 low => Sys2Proof.Machine.execProgrammable5 low s
  | .programmable6 low => Sys2Proof.Machine.execProgrammable6 low s
  | .programmable7 low => Sys2Proof.Machine.execProgrammable7 low s
  | .programmable8 low => Sys2Proof.Machine.execProgrammable8 low s
  | .programmable9 low => Sys2Proof.Machine.execProgrammable9 low s
  | .programmableA low => Sys2Proof.Machine.execProgrammableA low s
  | .programmableB low => Sys2Proof.Machine.execProgrammableB low s
  | .programmableC low => Sys2Proof.Machine.execProgrammableC low s
  | .programmableD low => Sys2Proof.Machine.execProgrammableD low s
  | .programmableE low => Sys2Proof.Machine.execProgrammableE low s
  | .programmableF low => Sys2Proof.Machine.execProgrammableF low s

end Sys2Proof.Machine
end

