-- ==== Sys2Proof/Machine/Step.lean ====
section
/-! DEFINITION. The step of the machine, and the placing of one instruction where the step fetches. -/

namespace Sys2Proof.Machine

/-- One step of the machine (spec/60_exceptions.md R183, spec/30_encoding.md R72). -/
def step (s : State) : Host.Outcome State Fault Refusal := cycle exec s

/-- `s` with the instruction whose bits are `w` stored where `step` fetches its next instruction. -/
def State.withFetchWord (s : State) (_nbits w : Nat) : State := s.placeWord (BitVec.ofNat 16 w)

end Sys2Proof.Machine
end

