-- ==== Sys2Proof/Safety.lean ====
section
/-! DEFINITION. What the claims about runs of 16b40 speak of: the invariant of the machine, what
counts as a safe step, and interrupt entry seen from outside. -/

namespace Sys2Proof.Machine

/-- The constants are ones an implementation may have: CF's reserved bits and its bit P are 0
(spec/10_state.md R15), and physical memory has 64 to 16384 kiW (spec/10_state.md R29,
spec/20_memory.md R41). -/
structure Params.Legal (p : Params) : Prop where
  cfReserved : p.cf &&& 0xFEF0#16 = 0
  memAtLeast : 64 ≤ p.memKiW.toNat
  memAtMost : p.memKiW.toNat ≤ 16384

/-- The invariant of the machine: what every run keeps. -/
structure State.Inv (s : State) : Prop where
  /-- memory has its canonical form -/
  memWf : s.mem.wf
  /-- the active level is supervisor or user: "currently, there are 2 modes available"
  (spec/10_state.md R27, R33) -/
  privLegal : s.activePriv = 0x0000 ∨ s.activePriv = 0x0003
  /-- the reserved bits of F1 are 0 (R25) -/
  f1Reserved : s.f1 &&& 0xFFF8#16 = 0
  /-- F1.B is set only where CF.B is (R25) -/
  bigIntAvailable : s.f1.getLsbD 0 = true → s.params.cf.getLsbD 8 = true
  /-- the reserved bits of F2 are 0 (R25) -/
  f2Reserved : s.f2 &&& 0xFFFE#16 = 0
  /-- once paging is active, page 0 is mapped (spec/20_memory.md R55) -/
  pageZeroMapped : s.pagingActive = true → (s.ptCache[0]).getLsbD 15 = true
  /-- `pending` is a set (R33) of requests of interrupt 5, the only external one
  (spec/60_exceptions.md R184) -/
  pendingSet : s.pending.Nodup
  pendingIo : ∀ r ∈ s.pending, r.id = 5

/-- The step answers a next state: neither a fault nor a refusal (spec/70_reset_and_hazards.md
R207). -/
def SafeStep (s : State) : Prop := ∃ t, step s = .next t

/-- `t` is the state an interrupt entry from `s` leaves, for some id and information words
(spec/60_exceptions.md R176). -/
def EnteredFrom (s t : State) : Prop := ∃ r : Request, t = s.enter r

/-! ### Frames: what a next state has in common with the state before -/

/-- No general register changes. -/
def RegsKept (s t : State) : Prop := ∀ r : Reg, t.reg r = s.reg r

/-- No general register but `d` changes. -/
def RegsKeptBut (d : Reg) (s t : State) : Prop := ∀ r : Reg, r ≠ d → t.reg r = s.reg r

/-- LR, SP, OF, F1 and F2 keep their values. -/
structure SpecialsKept (s t : State) : Prop where
  lr : t.lr = s.lr
  sp : t.sp = s.sp
  offset : t.offset = s.offset
  f1 : t.f1 = s.f1
  f2 : t.f2 = s.f2

/-- The page table registers in force keep their values. -/
structure PagingKept (s t : State) : Prop where
  pagingActive : t.pagingActive = s.pagingActive
  ptBase : t.ptBase = s.ptBase
  ptCache : t.ptCache = s.ptCache

/-- The privileged external registers keep their values. -/
structure PxKept (s t : State) : Prop where
  px0 : t.px0 = s.px0
  px1 : t.px1 = s.px1
  px10 : t.px10 = s.px10
  px11 : t.px11 = s.px11
  px12 : t.px12 = s.px12
  px13 : t.px13 = s.px13
  px14 : t.px14 = s.px14

/-- The privileged and hidden state keeps its values (spec/10_state.md R26, R33). -/
structure SystemKept (s t : State) : Prop where
  px : PxKept s t
  paging : PagingKept s t
  ie : t.ie = s.ie
  savedFl : t.savedFl = s.savedFl
  savedUi : t.savedUi = s.savedUi
  activePriv : t.activePriv = s.activePriv
  run : t.run = s.run
  pending : t.pending = s.pending
  params : t.params = s.params

/-- The environment's side: no port access, no request, no answer used. -/
structure EnvKept (s t : State) : Prop where
  arrivals : t.arrivals = s.arrivals
  portAnswers : t.portAnswers = s.portAnswers
  portTrace : t.portTrace = s.portTrace

/-- Every cell of memory reads as before, and no store has been made. -/
structure MemoryKept (s t : State) : Prop where
  cells : ∀ a : Nat, t.mem.read a = s.mem.read a
  replaced : t.replaced = s.replaced

/-- Every cell of memory but the two of physical word `pa` reads as before. -/
def MemoryKeptBut (pa : PAddr) (s t : State) : Prop :=
  ∀ a : Nat, a ≠ 2 * pa.toNat → a ≠ 2 * pa.toNat + 1 → t.mem.read a = s.mem.read a

/-- `v` has joined the values that physical word `pa` has held since reset, and no other value those of
any word (spec/20_memory.md R59). -/
def HeldValueJoined (pa : PAddr) (v : Word) (s t : State) : Prop :=
  ∀ (qa : PAddr) (x : Word), x ∈ t.heldValues qa ↔ (qa = pa ∧ x = v) ∨ x ∈ s.heldValues qa

/-- Special, privileged and hidden registers, memory and environment are as before: what an
instruction that works on the general registers, the flags and IP leaves alone. -/
structure OthersKept (s t : State) : Prop where
  specials : SpecialsKept s t
  system : SystemKept s t
  env : EnvKept s t
  memory : MemoryKept s t

/-- The instruction leaves `r` in R[d] and moves on: no other register, and neither memory nor the
environment, changes. The flags are spoken of apart. -/
structure WritesResult (s t : State) (d : Reg) (r : Word) : Prop where
  result : t.reg d = r
  regs : RegsKeptBut d s t
  ip : t.ip = s.ip
  ui : t.ui = 0
  others : OthersKept s t

/-- The instruction writes no register but UI, which it clears, and moves on; the flags are spoken of
apart. -/
structure WritesNoRegister (s t : State) : Prop where
  regs : RegsKept s t
  ip : t.ip = s.ip
  ui : t.ui = 0
  others : OthersKept s t

/-- S and Z of `fl` describe `r` (spec/10_state.md R21): negative as a two's complement number, and
zero. -/
def SignZero (r : Word) (fl : FlagBits) : Prop :=
  (signFlag fl = true ↔ r.toInt < 0) ∧ (zeroFlag fl = true ↔ r = 0)

/-- `x` lies outside the signed 16-bit numbers. -/
def SignedOverflow (x : Int) : Prop := x < -32768 ∨ 32767 < x

/-- `t` is the state after interrupt entry from `s` with this id and these information words
(spec/60_exceptions.md R176, R178). -/
structure Enters (s t : State) (id : BitVec 8) (info0 info1 info2 : Word) : Prop where
  savedFl : t.savedFl = s.fl
  savedUi : t.savedUi = s.ui
  ie : t.ie = false
  activePriv : t.activePriv = 0x0000
  px0 : t.px0 = 0x0000
  px10 : t.px10 = id.setWidth 16
  px11 : t.px11 = s.ip
  px12 : t.px12 = info0
  px13 : t.px13 = info1
  px14 : t.px14 = info2
  ui : t.ui = 0
  run : t.run = .running
  ip : t.ip = s.params.handlerAddr
  fl : t.fl = s.fl
  regs : RegsKept s t
  specials : SpecialsKept s t
  px1 : t.px1 = s.px1
  paging : PagingKept s t
  params : t.params = s.params
  env : EnvKept s t
  memory : MemoryKept s t

/-! ### The two forms of an operand -/

/-- `i` is `op d, src` or `op d, imm8`, and `b` its second operand: R[src], or the extended immediate
(spec/44_arithmetic.md, spec/30_encoding.md R73). -/
def TwoOperand (reg : Reg → Reg → Instr) (imm : Reg → BitVec 8 → Instr)
    (s : State) (i : Instr) (d : Reg) (b : Word) : Prop :=
  (∃ src, i = reg d src ∧ b = s.reg src) ∨ (∃ v, i = imm d v ∧ b = s.immx v)

/-- `i` is `op d, src` or `op imm8, src`, and `a` the address or port its first operand gives: R[d],
or the extended immediate (spec/30_encoding.md R70). -/
def AddressOperand (reg : Reg → Reg → Instr) (imm : BitVec 8 → Reg → Instr)
    (s : State) (i : Instr) (a : Word) (src : Reg) : Prop :=
  (∃ d, i = reg d src ∧ a = s.reg d) ∨ (∃ v, i = imm v src ∧ a = s.immx v)

/-- `i` loads R[d] from virtual address `a`: MRD, MRO and POP in their five forms, MRO where extension R
is present (spec/43_memory_access.md R125, R127, R129). -/
inductive LoadAccess (s : State) : Instr → Reg → Word → Prop
  | mrd {i d a} : TwoOperand .mrdReg .mrdImm s i d a → LoadAccess s i d a
  | mro {i d off} : s.has .relative = true → TwoOperand .mroReg .mroImm s i d off →
      LoadAccess s i d (s.offset + off)
  | pop (d low) : LoadAccess s (.pop d low) d s.sp

/-- `i` stores R[src] at virtual address `a`: MWR, MWO and PSH in their five forms, MWO where extension R
is present (spec/43_memory_access.md R126, R128, R130). -/
inductive StoreAccess (s : State) : Instr → Word → Reg → Prop
  | mwr {i a src} : AddressOperand .mwrReg .mwrImm s i a src → StoreAccess s i a src
  | mwo {i off src} : s.has .relative = true → AddressOperand .mwoReg .mwoImm s i off src →
      StoreAccess s i (s.offset + off) src
  | psh (src low) : StoreAccess s (.psh src low) (s.sp - 1) src

/-- `i` makes one data access of this kind at this virtual address: the six instructions of
spec/43_memory_access.md in their ten forms. -/
inductive DataAccess (s : State) : Instr → AccessKind → Word → Prop
  | load {i d a} : LoadAccess s i d a → DataAccess s i .read a
  | store {i a src} : StoreAccess s i a src → DataAccess s i .write a

/-! ### Kinds of instructions -/

/-- The seven privileged instructions, in their nine forms (spec/30_encoding.md R82). -/
inductive Privileged : Instr → Prop
  | irt (low) : Privileged (.irt low)
  | hlt (low) : Privileged (.hlt low)
  | hcf (low) : Privileged (.hcf low)
  | pxr (d num) : Privileged (.pxr d num)
  | pxw (num src) : Privileged (.pxw num src)
  | prdReg (d src) : Privileged (.prdReg d src)
  | prdImm (d imm) : Privileged (.prdImm d imm)
  | pwrReg (d src) : Privileged (.pwrReg d src)
  | pwrImm (imm src) : Privileged (.pwrImm imm src)

/-- The instructions that need extension `e` (spec/30_encoding.md R81). -/
inductive NeedsExtension : Extension → Instr → Prop
  | mulReg (d src) : NeedsExtension .multiply (.mulReg d src)
  | mulImm (d imm) : NeedsExtension .multiply (.mulImm d imm)
  | divReg (d src) : NeedsExtension .divide (.divReg d src)
  | divImm (d imm) : NeedsExtension .divide (.divImm d imm)
  | mroReg (d src) : NeedsExtension .relative (.mroReg d src)
  | mroImm (d imm) : NeedsExtension .relative (.mroImm d imm)
  | mwoReg (d src) : NeedsExtension .relative (.mwoReg d src)
  | mwoImm (imm src) : NeedsExtension .relative (.mwoImm imm src)
  | xrdOf (d) : NeedsExtension .relative (.xrd d 4)
  | xwrOfReg (src) : NeedsExtension .relative (.xwrReg 4 src)
  | xwrOfImm (imm) : NeedsExtension .relative (.xwrImm 4 imm)
  | mcu (leg d src) : NeedsExtension .conditionalMove (.mcu leg d src)
  | mcs (leg d src) : NeedsExtension .conditionalMove (.mcs leg d src)

/-- The sixteen programmable slots (spec/40_system.md R96). -/
inductive Programmable : Instr → Prop
  | p0 (low) : Programmable (.programmable0 low)
  | p1 (low) : Programmable (.programmable1 low)
  | p2 (low) : Programmable (.programmable2 low)
  | p3 (low) : Programmable (.programmable3 low)
  | p4 (low) : Programmable (.programmable4 low)
  | p5 (low) : Programmable (.programmable5 low)
  | p6 (low) : Programmable (.programmable6 low)
  | p7 (low) : Programmable (.programmable7 low)
  | p8 (low) : Programmable (.programmable8 low)
  | p9 (low) : Programmable (.programmable9 low)
  | pA (low) : Programmable (.programmableA low)
  | pB (low) : Programmable (.programmableB low)
  | pC (low) : Programmable (.programmableC low)
  | pD (low) : Programmable (.programmableD low)
  | pE (low) : Programmable (.programmableE low)
  | pF (low) : Programmable (.programmableF low)

/-- The instructions that store to memory (spec/43_memory_access.md R131). -/
inductive Stores : Instr → Prop
  | mwrReg (d src) : Stores (.mwrReg d src)
  | mwrImm (imm src) : Stores (.mwrImm imm src)
  | mwoReg (d src) : Stores (.mwoReg d src)
  | mwoImm (imm src) : Stores (.mwoImm imm src)
  | psh (src low) : Stores (.psh src low)

/-- The instructions that write FL (spec/10_state.md R22). -/
inductive WritesFlags : Instr → Prop
  | addReg (d src) : WritesFlags (.addReg d src)
  | addImm (d imm) : WritesFlags (.addImm d imm)
  | subReg (d src) : WritesFlags (.subReg d src)
  | subImm (d imm) : WritesFlags (.subImm d imm)
  | cmpReg (d src) : WritesFlags (.cmpReg d src)
  | cmpImm (d imm) : WritesFlags (.cmpImm d imm)
  | mulReg (d src) : WritesFlags (.mulReg d src)
  | mulImm (d imm) : WritesFlags (.mulImm d imm)
  | divReg (d src) : WritesFlags (.divReg d src)
  | divImm (d imm) : WritesFlags (.divImm d imm)
  | tstReg (d src) : WritesFlags (.tstReg d src)
  | tstImm (d imm) : WritesFlags (.tstImm d imm)
  | notReg (d src) : WritesFlags (.notReg d src)
  | notImm (d imm) : WritesFlags (.notImm d imm)
  | andReg (d src) : WritesFlags (.andReg d src)
  | andImm (d imm) : WritesFlags (.andImm d imm)
  | orrReg (d src) : WritesFlags (.orrReg d src)
  | orrImm (d imm) : WritesFlags (.orrImm d imm)
  | xorReg (d src) : WritesFlags (.xorReg d src)
  | xorImm (d imm) : WritesFlags (.xorImm d imm)
  | shlReg (d src) : WritesFlags (.shlReg d src)
  | shlImm (d imm) : WritesFlags (.shlImm d imm)
  | shrReg (d src) : WritesFlags (.shrReg d src)
  | shrImm (d imm) : WritesFlags (.shrImm d imm)
  | ret (socz) : WritesFlags (.ret socz)
  | xwrFlReg (src) : WritesFlags (.xwrReg 5 src)
  | xwrFlImm (imm) : WritesFlags (.xwrImm 5 imm)
  | irt (low) : WritesFlags (.irt low)

/-- The instructions that leave something in UI (spec/10_state.md R17). -/
inductive WritesUi : Instr → Prop
  | xwrUiReg (src) : WritesUi (.xwrReg 1 src)
  | xwrUiImm (imm) : WritesUi (.xwrImm 1 imm)
  | irt (low) : WritesUi (.irt low)

/-- The instructions that may leave something else in IP than the address of the next instruction
(spec/10_state.md R14); an interrupt aside. -/
inductive WritesIp : Instr → Prop
  | calImm (imm) : WritesIp (.calImm imm)
  | jmpImm (imm) : WritesIp (.jmpImm imm)
  | calReg (src low) : WritesIp (.calReg src low)
  | jmpReg (src low) : WritesIp (.jmpReg src low)
  | jcu (leg imm) : WritesIp (.jcu leg imm)
  | jcs (leg imm) : WritesIp (.jcs leg imm)
  | ret (socz) : WritesIp (.ret socz)
  | xwrIpReg (src) : WritesIp (.xwrReg 0 src)
  | xwrIpImm (imm) : WritesIp (.xwrImm 0 imm)
  | irt (low) : WritesIp (.irt low)
  | pxwUpdate (src) : WritesIp (.pxw 31 src)

/-- `i` is an XWR of external register `e`, in either form (spec/42_ports_xregs.md R118). -/
inductive WritesXreg (e : Reg) : Instr → Prop
  | reg (src) : WritesXreg e (.xwrReg e src)
  | imm (v) : WritesXreg e (.xwrImm e v)

end Sys2Proof.Machine
end

