-- ==== Sys2Proof/Certificates/Slice0/Obligations.lean ====
section
/-! DEFINITION. The statements about 16b40 for the provers. A rule R<n> is one of spec/; D<n> is a
decision of spec/92_eei_decisions.md, which the spec makes where its source is silent; "entry <n>" is
notes/assumptions/<n>.md. `exec i s` is given `s` with IP already at the next instruction. -/

open Sys2Proof Sys2Proof.Machine

/-! ### Encoding -/

/-- Every instruction, with every operand its encoding admits, is read back from its word (R60 to R71,
R76). -/
def Obligations.DecodeReadsWhatEncodeWrites : Prop :=
  ∀ i : Instr, decode (encode i) = .ok i

/-- No bit of a word is dropped: the instruction read from a word encodes to that very word. Ignored
fields (R79) are operands of the model's instructions (entry 18). -/
def Obligations.EncodeRestoresTheDecodedWord : Prop :=
  ∀ (w : Word) (i : Instr), decode w = .ok i → encode i = w

/-- R76: a word is a row's instruction exactly when its masked bits are the row's fixed bits. So no
two rows match one word. -/
def Obligations.DecodingFollowsTheOpcodeTable : Prop :=
  ∀ (w : Word) (i : Instr), w &&& (tableRow i).mask = (tableRow i).fixed ↔
    ∃ j, decode w = .ok j ∧ tableRow j = tableRow i

/-- The words that are no instruction are those of the tables of R77 and R78 (by D4). The sixteen
programmable slots, the last row of R77, decode to instructions that raise the same interrupt: see
ProgrammableSlotsRaiseInterruptSix. -/
def Obligations.WordsThatAreNoInstruction : Prop :=
  ∀ w : Word,
    let top := w.toNat / 2048
    let sub := w.toNat / 256 % 8
    let low := w.toNat % 32
    (∀ i, decode w ≠ .ok i) ↔
      (top = 0x00 ∧ (low ≤ 0x07 ∨ low = 0x15 ∨ low = 0x16 ∨ low = 0x17)) ∨
      (top = 0x01 ∧ (sub = 0b100 ∨ sub = 0b101)) ∨
      (top = 0x15 ∧ (sub = 0b101 ∨ sub = 0b110)) ∨
      top = 0x0A ∨
      (top = 0x15 ∧ sub = 0b100 ∧ w.toNat % 16 ≠ 0) ∨
      ((top = 0x16 ∨ top = 0x17) ∧ (w.getLsbD 4 = true ∨ w.getLsbD 0 = true))

/-- Words the spec writes out (spec/95_test_vectors.md part 2), one or two of each family. -/
def Obligations.SpecWordsDecode : Prop :=
  decode 0x0880 = .ok (.int 0x40) ∧
  decode 0x0E74 = .ok (.pxr 3 10) ∧
  decode 0x27C3 = .ok (.jcu 0b001 0xFC) ∧
  decode 0x1801 = .ok (.jmpImm 0x400) ∧
  decode 0x484A = .ok (.pwrImm 5 2) ∧
  decode 0x046B = .ok (.xwrReg 3 4) ∧
  decode 0x78A2 = .ok (.mwoImm 1 5) ∧
  decode 0xA7BF = .ok (.movImm 5 0xFF) ∧
  decode 0x0238 = .ok (.addReg 1 2) ∧
  decode 0xF002 = .ok (.shlImm 0 1) ∧
  decode 0xB148 = .ok (.mcu 0b100 2 1)

/-- R63: of an immediate of any width X = n + 1, bits X-2 to 0 stand in the field's bits X-1 to 1 and
bit X-1 in the field's bit 0, and decoding undoes it. Which bits of a word make up the field is the
business of R64 to R71. -/
def Obligations.MostSignificantBitComesLast : Prop :=
  ∀ (n : Nat) (v : BitVec (n + 1)),
    (∀ i < n, (fieldOfImm v).getLsbD (i + 1) = v.getLsbD i) ∧
    (fieldOfImm v).getLsbD 0 = v.getLsbD n ∧
    immOfField (fieldOfImm v) = v ∧ fieldOfImm (immOfField v) = v

/-- R73, R75, bit by bit: below the immediate's width its own bits, above it its sign where F1.S = 1,
and the low eight bits of UI ORed into bits 15:8. That the sign and UI are ORed is D5. -/
def Obligations.ExtendedImmediateBits : Prop :=
  ∀ (s : State) (n : Nat) (v : BitVec n) (k : Nat), 0 < n → n ≤ 16 → k < 16 →
    (s.immx v).getLsbD k =
      ((if k < n then v.getLsbD k else s.f1.getLsbD 1 && v.getLsbD (n - 1)) ||
        (decide (8 ≤ k) && s.ui.getLsbD (k - 8)))

/-! ### The step -/

/-- R72: where the processor runs, no request is to be taken and the fetch at IP succeeds, the step is
`exec` of the decoded instruction, in the state as it was but for IP, which is one further, the
requests that came in, and the model's counter of free values. -/
def Obligations.StepRunsTheDecodedInstruction : Prop :=
  ∀ (s : State) (pa : PAddr) (i : Instr), s.run = .running → s.receive.deliverable = none →
    s.receive.translate .execute s.ip = .ok pa → decode (s.receive.fetchedWord pa) = .ok i →
    ∃ u, step s = exec i u ∧ u = { s.receive with ip := s.ip + 1, fresh := u.fresh }

/-- R72, R77: a fetched word that is no instruction raises interrupt 6 with the word in PX[12] and the
address after it in PX[11] (the spec's D4). With interrupts disabled it is the double fault that stops
a model (R186, D16). -/
def Obligations.IllegalWordRaisesInterruptSix : Prop :=
  ∀ (s : State) (pa : PAddr), s.run = .running → s.receive.deliverable = none →
    s.receive.translate .execute s.ip = .ok pa → (∀ i, decode (s.receive.fetchedWord pa) ≠ .ok i) →
    if s.ie then
      ∃ t, step s = .next t ∧
        Enters { s.receive with ip := s.ip + 1 } t 6 (s.receive.fetchedWord pa) 0 0 ∧
        t.pending = s.receive.pending
    else step s = .fault (.doubleFault 6)

/-- R52, R72, R172: a fetch from a page that is absent (1) or not executable (3) raises, with IP
already advanced. With interrupts disabled it is the double fault that stops a model (R186, D16), and
a frame beyond physical memory stops it too (R55). -/
def Obligations.FetchFaults : Prop :=
  ∀ s : State, s.run = .running → s.receive.deliverable = none →
    (∀ id i0 i1, s.receive.translate .execute s.ip = .interrupt id i0 i1 →
      if s.ie then
        ∃ t, step s = .next t ∧ Enters { s.receive with ip := s.ip + 1 } t id i0 i1 0 ∧
          t.pending = s.receive.pending
      else step s = .fault (.doubleFault id)) ∧
    (∀ pa, s.receive.translate .execute s.ip = .absent pa → step s = .fault (.frameBeyondMemory pa))

/-- R59 (its second case is D21): a fetch returns a value the word has held since reset; the newest
one where F2.P = 1 or where no store has touched the word; a store adds its value to those that the
word has held and to no other word's. That F2.P counts as it is at the fetch is entry 12. -/
def Obligations.FetchReturnsAValueTheWordHeld : Prop :=
  ∀ (s : State) (pa : PAddr), s.mem.wf →
    s.fetchedWord pa ∈ s.heldValues pa ∧
    (s.f2.getLsbD 0 = true → s.fetchedWord pa = s.mem.readWord pa) ∧
    ((∀ v, (pa, v) ∉ s.replaced) → s.fetchedWord pa = s.mem.readWord pa) ∧
    ∀ (qa : PAddr) (v x : Word),
      x ∈ (s.storeWord qa v).heldValues pa ↔ (pa = qa ∧ x = v) ∨ x ∈ s.heldValues pa

/-! ### External interrupts, waiting and stopping -/

/-- R184: the devices' requests of interrupt 5 join the set `pending`, with the port number as
information, and nothing else changes. The schedule of requests is the model's (entry 9). -/
def Obligations.RequestsJoinPending : Prop :=
  ∀ s : State,
    (∀ r, r ∈ s.receive.pending ↔
      r ∈ s.pending ∨ ∃ port ∈ s.arrivals.headD [], r = ⟨5, port, 0, 0⟩) ∧
    (s.pending.Nodup → s.receive.pending.Nodup) ∧
    s.receive = { s with arrivals := s.arrivals.tail, pending := s.receive.pending }

/-- R174, R183: with interrupts enabled and a request pending, the step of a running or waiting
processor takes a request with the lowest id, removes it and enters its interrupt; PX[11] is the
address of the instruction not yet fetched. (Delivery at instruction boundaries is D20.) -/
def Obligations.LowestPendingRequestIsTaken : Prop :=
  ∀ s : State, s.run ≠ .dead → s.ie = true → s.receive.pending ≠ [] →
    ∃ r ∈ s.receive.pending, (∀ q ∈ s.receive.pending, r.id.toNat ≤ q.id.toNat) ∧
      ∃ t, step s = .next t ∧ Enters s.receive t r.id r.info0 r.info1 r.info2 ∧
        t.pending = s.receive.pending.erase r

/-- R93, R195: after HCF nothing ever changes. R92, R183: a waiting processor with no request to take
fetches nothing. -/
def Obligations.DeadAndWaitingRunNothing : Prop :=
  ∀ s : State,
    (s.run = .dead → step s = .next s) ∧
    (s.run = .waiting → s.receive.deliverable = none → step s = .next s.receive)

/-! ### Exceptions, privilege and extensions -/

/-- R90, R176, R178: INT enters the handler with its operand as id, in either mode. That the
information words are 0 is D17, and precision D9. -/
def Obligations.IntEntersTheHandler : Prop :=
  ∀ (s : State) (imm : BitVec 8), s.ie = true →
    ∃ t, exec (.int imm) s = .next t ∧ Enters s t imm 0 0 0 ∧ t.pending = s.pending

/-- R186 (D16): a synchronous interrupt that one of these raises while IE = 0 stops a model: INT, a
privileged instruction in user mode, an absent extension, a programmable slot, a division by zero. The
other causes have it beside their IE = 1 case: IllegalWordRaisesInterruptSix, FetchFaults,
DataAccessFaults. -/
def Obligations.InterruptWhileDisabledIsADoubleFault : Prop :=
  ∀ s : State, s.ie = false →
    (∀ imm, exec (.int imm) s = .fault (.doubleFault imm)) ∧
    (∀ i, Privileged i → s.activePriv ≠ 0 → exec i s = .fault (.doubleFault 2)) ∧
    (∀ e i, NeedsExtension e i → s.has e = false → exec i s = .fault (.doubleFault 6)) ∧
    (∀ i, Programmable i → exec i s = .fault (.doubleFault 6)) ∧
    (∀ i d, TwoOperand .divReg .divImm s i d 0 → s.has .divide = true →
      exec i s = .fault (.doubleFault 4))

/-- R91: IRT in supervisor mode. That it ends in user mode whatever mode was interrupted is D11. -/
def Obligations.IrtReturns : Prop :=
  ∀ (s : State) (low : BitVec 8), s.activePriv = 0x0000 →
    exec (.irt low) s = .next
      { s with
        activePriv := 0x0003
        px0 := 0x0003
        fl := s.savedFl
        ui := s.savedUi
        ip := s.px11
        ie := true }

/-- R82: IRT, HLT, HCF, PXR, PXW, PRD, PWR in user mode raise interrupt 2 with the instruction's word
in PX[12], and have no effect of their own (D9). -/
def Obligations.PrivilegedInstructionsTrapInUserMode : Prop :=
  ∀ (s : State) (i : Instr), Privileged i → s.activePriv ≠ 0x0000 → s.ie = true →
    ∃ t, exec i s = .next t ∧ Enters s t 2 (encode i) 0 0 ∧ t.pending = s.pending

/-- R81: an instruction whose extension CF does not report raises interrupt 6 with its word in PX[12]
and has no effect of its own (D9). -/
def Obligations.MissingExtensionRaisesInterruptSix : Prop :=
  ∀ (s : State) (e : Extension) (i : Instr), NeedsExtension e i → s.has e = false → s.ie = true →
    ∃ t, exec i s = .next t ∧ Enters s t 6 (encode i) 0 0 ∧ t.pending = s.pending

/-- R96: extension P is absent (D6), so each of the sixteen programmable slots raises interrupt 6 with
its word in PX[12]. That is all these instructions do. -/
def Obligations.ProgrammableSlotsRaiseInterruptSix : Prop :=
  ∀ (s : State) (i : Instr), Programmable i → s.ie = true →
    ∃ t, exec i s = .next t ∧ Enters s t 6 (encode i) 0 0 ∧ t.pending = s.pending

/-! ### System instructions -/

/-- R92, R93: HLT enables interrupts and waits; HCF disables them and stops for good. -/
def Obligations.HltWaitsAndHcfStops : Prop :=
  ∀ (s : State) (low : BitVec 8), s.activePriv = 0x0000 →
    exec (.hlt low) s = .next { s with ie := true, run := .waiting, ui := 0 } ∧
    exec (.hcf low) s = .next { s with ie := false, run := .dead, ui := 0 }

/-- R94: PXR reads each privileged register there is to read; PX[31] and the reserved ones are refused
(R31, R32). -/
def Obligations.PxrReadsPrivilegedRegisters : Prop :=
  ∀ (s : State) (d : Reg), s.activePriv = 0x0000 →
    (∀ x ∈ ([(0, s.px0), (1, s.px1), (2, s.params.memKiW), (10, s.px10), (11, s.px11), (12, s.px12),
        (13, s.px13), (14, s.px14)] : List (BitVec 5 × Word)),
      ∃ t, exec (.pxr d x.1) s = .next t ∧ WritesResult s t d x.2 ∧ t.fl = s.fl) ∧
    ∀ num : BitVec 5, num.toNat ∉ [0, 1, 2, 10, 11, 12, 13, 14] →
      exec (.pxr d num) s = .refused (.unreadablePX num)

/-- R95: PXW writes each privileged register there is to write, and nothing but it (and UI); PX[2] and
the reserved ones are refused (R29, R32). PX[31] is the subject of PxwUpdatesTheMachineState. -/
def Obligations.PxwWritesPrivilegedRegisters : Prop :=
  ∀ (s : State) (src : Reg), s.activePriv = 0x0000 →
    exec (.pxw 0 src) s = .next { s with px0 := s.reg src, ui := 0 } ∧
    exec (.pxw 1 src) s = .next { s with px1 := s.reg src, ui := 0 } ∧
    exec (.pxw 10 src) s = .next { s with px10 := s.reg src, ui := 0 } ∧
    exec (.pxw 11 src) s = .next { s with px11 := s.reg src, ui := 0 } ∧
    exec (.pxw 12 src) s = .next { s with px12 := s.reg src, ui := 0 } ∧
    exec (.pxw 13 src) s = .next { s with px13 := s.reg src, ui := 0 } ∧
    exec (.pxw 14 src) s = .next { s with px14 := s.reg src, ui := 0 } ∧
    ∀ num : BitVec 5, num.toNat ∉ [0, 1, 10, 11, 12, 13, 14, 31] →
      exec (.pxw num src) s = .refused (.unwritablePX num)

/-- R31, R54 (D13, D14): a write of PX[31], whatever the value and whatever PX[1] holds, makes PX[0] the
active level and the sixteen entries at PX[1] + 0x0010 the active page table, turns paging on and goes
on at 0x0000. It stops a model where PX[0] holds no defined level (R31) and where the entry loaded for
page 0 does not map it (R55). That an entry whose word lies beyond physical memory is a free value, of
which nothing is said, is the model's choice (entry 22). -/
def Obligations.PxwUpdatesTheMachineState : Prop :=
  ∀ (s : State) (src : Reg), s.activePriv = 0x0000 →
    let entry (n : Nat) : Word := s.mem.readWord (BitVec.ofNat 24 (s.px1.toNat + 0x10 + n))
    let present (n : Nat) : Prop := s.px1.toNat + 0x10 + n < s.params.memKiW.toNat * 1024
    let completes : Prop :=
      ∃ t, exec (.pxw 31 src) s = .next t ∧ (∀ n : Fin 16, present n → t.ptCache[n] = entry n) ∧
        (t.ptCache[0]).getLsbD 15 = true ∧
        t = { s with
          activePriv := s.px0
          ptBase := s.px1
          pagingActive := true
          ptCache := t.ptCache
          ip := 0x0000
          ui := 0
          fresh := t.fresh }
    if s.px0 ≠ 0x0000 ∧ s.px0 ≠ 0x0003 then
      exec (.pxw 31 src) s = .refused (.undefinedPrivilege s.px0)
    else if s.params.memKiW.toNat * 1024 ≤ s.px1.toNat + 0x10 then
      exec (.pxw 31 src) s = .fault .pageZeroNotMapped ∨ completes
    else if (entry 0).getLsbD 15 = false then
      exec (.pxw 31 src) s = .fault .pageZeroNotMapped
    else completes

/-! ### Control transfer -/

/-- R100, R101, R102: JMP imm11 and CAL imm11 jump relative to the next instruction by the extended
immediate, modulo 2^16 (D1); CAL leaves the address of the next instruction in LR. -/
def Obligations.JmpAndCalImmediate : Prop :=
  ∀ (s : State) (imm : BitVec 11),
    exec (.jmpImm imm) s = .next { s with ip := s.ip + s.immx imm, ui := 0 } ∧
    exec (.calImm imm) s = .next { s with lr := s.ip, ip := s.ip + s.immx imm, ui := 0 }

/-- R105, CAL s: its word; its effect in either mode, whatever its ignored field holds: LR gets the
address of the next instruction, IP moves by R[s], FL and everything else stay; UI does not matter
and is cleared. -/
def Obligations.CalRegisterCalls : Prop :=
  (∀ src : Reg, encode (.calReg src 0) = 0xAA00#16 ||| (src.setWidth 16 <<< 5)) ∧
  ∀ (s : State) (src : Reg) (low : BitVec 5),
    exec (.calReg src low) s = .next { s with lr := s.ip, ip := s.ip + s.reg src, ui := 0 }

/-- R106, JMP s: its word; its effect in either mode, whatever its ignored field holds: IP moves by
R[s], FL, LR and everything else stay; with R[s] = 0xFFFF it jumps to itself. -/
def Obligations.JmpRegisterJumps : Prop :=
  (∀ src : Reg, encode (.jmpReg src 0) = 0xAB00#16 ||| (src.setWidth 16 <<< 5)) ∧
  (∀ (s : State) (src : Reg) (low : BitVec 5),
    exec (.jmpReg src low) s = .next { s with ip := s.ip + s.reg src, ui := 0 }) ∧
  ∀ (s : State) (src : Reg) (low : BitVec 5) (a : Word), s.ip = a + 1 → s.reg src = 0xFFFF →
    exec (.jmpReg src low) s = .next { s with ip := a, ui := 0 }

/-- R103, R104: JCU and JCS jump by the extended immediate exactly where their condition on FL holds,
and clear UI either way. -/
def Obligations.ConditionalJumps : Prop :=
  ∀ (s : State) (leg : BitVec 3) (imm : BitVec 8),
    exec (.jcu leg imm) s =
      .next { s with ip := if condU leg s.fl then s.ip + s.immx imm else s.ip, ui := 0 } ∧
    exec (.jcs leg imm) s =
      .next { s with ip := if condS leg s.fl then s.ip + s.immx imm else s.ip, ui := 0 }

/-- R107, its effect: RET jumps to LR and sets FL to the four bits in its word; LR and SP stay. -/
def Obligations.RetReturns : Prop :=
  ∀ (s : State) (socz : FlagBits),
    exec (.ret socz) s = .next { s with ip := s.lr, fl := socz, ui := 0 }

/-- R108, NOP: its word; it does nothing but clear UI, IP having advanced, whatever its ignored field
holds. -/
def Obligations.NopDoesNothing : Prop :=
  encode (.nop 0) = 0xAF00#16 ∧
  ∀ (s : State) (low : BitVec 8), exec (.nop low) s = .next { s with ui := 0 }

/-- R109: the unsigned conditions, row by row, and what they mean after CMP of `a` and `b` (both forms
of CMP, no borrow in). Rows 010 and 101 are as printed (D19; entry 19), and what the rows mean after CMP
rests on C being the borrow (D7; entry 16). -/
def Obligations.UnsignedConditionTable : Prop :=
  (∀ fl : FlagBits,
    condU 0b000 fl = false ∧
    (condU 0b001 fl = true ↔ carryFlag fl = false ∧ zeroFlag fl = false) ∧
    (condU 0b010 fl = true ↔ zeroFlag fl = false) ∧
    (condU 0b011 fl = true ↔ carryFlag fl = false) ∧
    (condU 0b100 fl = true ↔ carryFlag fl = true) ∧
    (condU 0b101 fl = true ↔ zeroFlag fl = true) ∧
    (condU 0b110 fl = true ↔ carryFlag fl = true ∨ zeroFlag fl = true) ∧
    condU 0b111 fl = true) ∧
  ∀ (s t : State) (i : Instr) (d : Reg) (b : Word), TwoOperand .cmpReg .cmpImm s i d b →
    s.f1.getLsbD 0 = false → exec i s = .next t →
    (condU 0b001 t.fl = true ↔ b.toNat < (s.reg d).toNat) ∧
    (condU 0b010 t.fl = true ↔ s.reg d ≠ b) ∧
    (condU 0b011 t.fl = true ↔ b.toNat ≤ (s.reg d).toNat) ∧
    (condU 0b100 t.fl = true ↔ (s.reg d).toNat < b.toNat) ∧
    (condU 0b101 t.fl = true ↔ s.reg d = b) ∧
    (condU 0b110 t.fl = true ↔ (s.reg d).toNat ≤ b.toNat)

/-- R110: the signed conditions, row by row, and what they mean after CMP of `a` and `b` read as two's
complement numbers (both forms of CMP, no borrow in). Rows 010 and 101 are as printed (D19; entry 19),
and what the rows mean after CMP rests on O being the overflow of the exact difference (D7; entry 16). -/
def Obligations.SignedConditionTable : Prop :=
  (∀ fl : FlagBits,
    condS 0b000 fl = false ∧
    (condS 0b001 fl = true ↔ signFlag fl = overflowFlag fl ∧ zeroFlag fl = false) ∧
    (condS 0b010 fl = true ↔ zeroFlag fl = false) ∧
    (condS 0b011 fl = true ↔ signFlag fl = overflowFlag fl) ∧
    (condS 0b100 fl = true ↔ signFlag fl ≠ overflowFlag fl) ∧
    (condS 0b101 fl = true ↔ zeroFlag fl = true) ∧
    (condS 0b110 fl = true ↔ signFlag fl ≠ overflowFlag fl ∨ zeroFlag fl = true) ∧
    condS 0b111 fl = true) ∧
  ∀ (s t : State) (i : Instr) (d : Reg) (b : Word), TwoOperand .cmpReg .cmpImm s i d b →
    s.f1.getLsbD 0 = false → exec i s = .next t →
    (condS 0b001 t.fl = true ↔ b.toInt < (s.reg d).toInt) ∧
    (condS 0b010 t.fl = true ↔ s.reg d ≠ b) ∧
    (condS 0b011 t.fl = true ↔ b.toInt ≤ (s.reg d).toInt) ∧
    (condS 0b100 t.fl = true ↔ (s.reg d).toInt < b.toInt) ∧
    (condS 0b101 t.fl = true ↔ s.reg d = b) ∧
    (condS 0b110 t.fl = true ↔ (s.reg d).toInt ≤ b.toInt)

/-! ### Ports and external registers -/

/-- R115, R119 (D15, D22): PRD reads a word the environment supplies and records the access. That the
environment's answers stand in `portAnswers`, and that it may answer anything where that is empty, is
entry 8. -/
def Obligations.PrdReadsThePort : Prop :=
  ∀ (s : State) (i : Instr) (d : Reg) (port : Word), TwoOperand .prdReg .prdImm s i d port →
    s.activePriv = 0x0000 →
    ∃ t, exec i s = .next t ∧
      t.portTrace = s.portTrace ++ [PortEvent.read port] ∧ t.arrivals = s.arrivals ∧
      (∀ v rest, s.portAnswers = v :: rest → t.reg d = v ∧ t.portAnswers = rest) ∧
      (s.portAnswers = [] → t.portAnswers = []) ∧
      RegsKeptBut d s t ∧ t.fl = s.fl ∧ t.ip = s.ip ∧ t.ui = 0 ∧
      SpecialsKept s t ∧ SystemKept s t ∧ MemoryKept s t

/-- R116, R119 (D15, D22): PWR gives the port and R[s] to the environment and changes no processor
state but UI. -/
def Obligations.PwrWritesThePort : Prop :=
  ∀ (s : State) (i : Instr) (port : Word) (src : Reg), AddressOperand .pwrReg .pwrImm s i port src →
    s.activePriv = 0x0000 →
    exec i s = .next
      { s with portTrace := s.portTrace ++ [PortEvent.write port (s.reg src)], ui := 0 }

/-- R117: XRD reads each of the eight external registers, number 1 as CF and never as UI, OF where
extension R is present, in either mode. -/
def Obligations.XrdReadsExternalRegisters : Prop :=
  ∀ (s : State) (d : Reg),
    (∀ x ∈ ([(0, s.ip), (1, s.params.cf), (2, s.lr), (3, s.sp), (5, 0#12 ++ s.fl), (6, s.f1),
        (7, s.f2)] : List (Reg × Word)),
      ∃ t, exec (.xrd d x.1) s = .next t ∧ WritesResult s t d x.2 ∧ t.fl = s.fl) ∧
    (s.has .relative = true →
      ∃ t, exec (.xrd d 4) s = .next t ∧ WritesResult s t d s.offset ∧ t.fl = s.fl)

/-- R118: XWR writes each of the eight external registers, number 1 as UI, which it then leaves as it
is; OF where extension R is present; FL from bits 3:0 (D18); F1 and F2 with their reserved bits 0, F1.B
only where CF.B = 1 (D8, D12). -/
def Obligations.XwrWritesExternalRegisters : Prop :=
  ∀ (s : State) (i : Instr) (e : Reg) (v : Word), TwoOperand .xwrReg .xwrImm s i e v →
    (e = 0 → exec i s = .next { s with ip := v, ui := 0 }) ∧
    (e = 1 → exec i s = .next { s with ui := v }) ∧
    (e = 2 → exec i s = .next { s with lr := v, ui := 0 }) ∧
    (e = 3 → exec i s = .next { s with sp := v, ui := 0 }) ∧
    (e = 4 → s.has .relative = true → exec i s = .next { s with offset := v, ui := 0 }) ∧
    (e = 5 → exec i s = .next { s with fl := v.extractLsb' 0 4, ui := 0 }) ∧
    (e = 6 → v.toNat < 8 → (v.getLsbD 0 = true → s.params.cf.getLsbD 8 = true) →
      exec i s = .next { s with f1 := v, ui := 0 }) ∧
    (e = 7 → v.toNat < 2 → exec i s = .next { s with f2 := v, ui := 0 })

/-- R25: a write of F1 or F2 that would set a reserved bit, or F1.B where CF.B = 0, is refused (D8,
D12). -/
def Obligations.XwrRefusesReservedFeatureBits : Prop :=
  ∀ (s : State) (i : Instr) (e : Reg) (v : Word), TwoOperand .xwrReg .xwrImm s i e v →
    (e = 6 → 8 ≤ v.toNat → exec i s = .refused (.reservedFeatureBit v)) ∧
    (e = 6 → v.toNat < 8 → v.getLsbD 0 = true → s.params.cf.getLsbD 8 = false →
      exec i s = .refused (.bigIntAbsent v)) ∧
    (e = 7 → 2 ≤ v.toNat → exec i s = .refused (.reservedFeatureBit v))

/-! ### Memory -/

/-- R49 to R53, over numbers: unpaged, physical is virtual; paged, the page's entry decides, by its
present bit (15) and the bit for the kind of access (14 read, 13 write, 12 execute), and gives the
frame (D14); a frame at or beyond `MEM_KIW * 1024` is the undefined case of R55. -/
def Obligations.TranslationFollowsThePageTable : Prop :=
  ∀ (s : State) (kind : AccessKind) (va : Word) (page : Fin 16), va.toNat / 4096 = page →
    let entry := s.ptCache[page]
    let bit := match kind with | .read => 14 | .write => 13 | .execute => 12
    let code : Word := match kind with | .read => 0 | .write => 1 | .execute => 2
    let target := entry.toNat % 4096 * 4096 + va.toNat % 4096
    if s.pagingActive = false then
      ∃ pa, s.translate kind va = .ok pa ∧ pa.toNat = va.toNat
    else if entry.getLsbD 15 = false then s.translate kind va = .interrupt 1 va 0
    else if entry.getLsbD bit = false then s.translate kind va = .interrupt 3 va code
    else if target < s.params.memKiW.toNat * 1024 then
      ∃ pa, s.translate kind va = .ok pa ∧ pa.toNat = target
    else ∃ pa, s.translate kind va = .absent pa ∧ pa.toNat = target

/-- R125, R127: MRD and MRO, in both forms, put the word at the address (plus OF, modulo 2^16, for MRO,
where extension R is present) into R[d] and change nothing else. -/
def Obligations.LoadsReadTheWord : Prop :=
  ∀ (s : State) (i : Instr) (d : Reg) (a : Word) (pa : PAddr),
    (TwoOperand .mrdReg .mrdImm s i d a → s.translate .read a = .ok pa →
      ∃ t, exec i s = .next t ∧ WritesResult s t d (s.mem.readWord pa) ∧ t.fl = s.fl) ∧
    (TwoOperand .mroReg .mroImm s i d a → s.has .relative = true →
      s.translate .read (s.offset + a) = .ok pa →
      ∃ t, exec i s = .next t ∧ WritesResult s t d (s.mem.readWord pa) ∧ t.fl = s.fl)

/-- R126, R128: MWR and MWO, in both forms, store R[s] at the address (plus OF, modulo 2^16, for MWO,
where extension R is present) and change no other cell of memory and nothing else; the word stored
joins the values that a fetch may see (R59). Memory is in the canonical form that StepKeepsTheInvariant
says every step keeps. -/
def Obligations.StoresWriteTheWord : Prop :=
  ∀ (s : State) (i : Instr) (a : Word) (src : Reg) (pa : PAddr), s.mem.wf →
    (AddressOperand .mwrReg .mwrImm s i a src ∧ s.translate .write a = .ok pa) ∨
    (AddressOperand .mwoReg .mwoImm s i a src ∧ s.has .relative = true ∧
      s.translate .write (s.offset + a) = .ok pa) →
    ∃ t, exec i s = .next t ∧ t.mem.readWord pa = s.reg src ∧ MemoryKeptBut pa s t ∧
      HeldValueJoined pa (s.reg src) s t ∧ RegsKept s t ∧ t.fl = s.fl ∧ t.ip = s.ip ∧ t.ui = 0 ∧
      SpecialsKept s t ∧ SystemKept s t ∧ EnvKept s t

/-- R129: POP reads the word at SP into R[d], then increments SP modulo 2^16. -/
def Obligations.PopReadsThenIncrements : Prop :=
  ∀ (s : State) (d : Reg) (low : BitVec 5) (pa : PAddr), s.translate .read s.sp = .ok pa →
    ∃ t, exec (.pop d low) s = .next t ∧ t.reg d = s.mem.readWord pa ∧ t.sp = s.sp + 1 ∧
      RegsKeptBut d s t ∧ t.fl = s.fl ∧ t.ip = s.ip ∧ t.ui = 0 ∧
      t.lr = s.lr ∧ t.offset = s.offset ∧ t.f1 = s.f1 ∧ t.f2 = s.f2 ∧
      SystemKept s t ∧ EnvKept s t ∧ MemoryKept s t

/-- R130: PSH decrements SP modulo 2^16, then stores R[s] there, and changes no other cell of memory
(which is in canonical form, see StepKeepsTheInvariant); the word stored joins the values that a fetch
may see (R59). -/
def Obligations.PshDecrementsThenStores : Prop :=
  ∀ (s : State) (src : Reg) (low : BitVec 5) (pa : PAddr), s.mem.wf →
    s.translate .write (s.sp - 1) = .ok pa →
    ∃ t, exec (.psh src low) s = .next t ∧ t.mem.readWord pa = s.reg src ∧ t.sp = s.sp - 1 ∧
      MemoryKeptBut pa s t ∧ HeldValueJoined pa (s.reg src) s t ∧
      RegsKept s t ∧ t.fl = s.fl ∧ t.ip = s.ip ∧ t.ui = 0 ∧
      t.lr = s.lr ∧ t.offset = s.offset ∧ t.f1 = s.f1 ∧ t.f2 = s.f2 ∧
      SystemKept s t ∧ EnvKept s t

/-- R52, R53, R175 (D9): with interrupts enabled, a data access that its page turns away raises interrupt
1 or 3 and has no other effect: no register, no memory, no SP. With interrupts disabled it is the double
fault that stops a model (R186, D16; entry 13), and a frame beyond physical memory stops it too (R55). -/
def Obligations.DataAccessFaults : Prop :=
  ∀ (s : State) (i : Instr) (kind : AccessKind) (a : Word), DataAccess s i kind a →
    (∀ id i0 i1, s.translate kind a = .interrupt id i0 i1 → s.ie = true →
      ∃ t, exec i s = .next t ∧ Enters s t id i0 i1 0 ∧ t.pending = s.pending) ∧
    (∀ id i0 i1, s.translate kind a = .interrupt id i0 i1 → s.ie = false →
      exec i s = .fault (.doubleFault id)) ∧
    (∀ pa, s.translate kind a = .absent pa → exec i s = .fault (.frameBeyondMemory pa))

/-- R56 (D3): after MWR, MWO or PSH has stored to a physical word, MRD, MRO or POP of that word, at once
or in any state in which the word has not changed since, loads what was stored, under whatever virtual
addresses the two name it; such a load of another word loads what that word held before the store.
Which steps leave a word as it is, OnlyStoresChangeMemory says. -/
def Obligations.LoadSeesTheLatestStore : Prop :=
  ∀ (s t s' : State) (i j : Instr) (a a' : Word) (src d : Reg) (pa pa' : PAddr),
    s.mem.wf → StoreAccess s i a src → s.translate .write a = .ok pa → exec i s = .next t →
    s'.mem.readWord pa' = t.mem.readWord pa' →
    LoadAccess s' j d a' → s'.translate .read a' = .ok pa' →
    ∃ u, exec j s' = .next u ∧
      u.reg d = if pa' = pa then s.reg src else s.mem.readWord pa'

/-! ### Arithmetic, logic and moves -/

/-- R135, R136, R142, R143: ADD and SUB, in both forms, with the carry or borrow in where F1.B = 1:
the result modulo 2^16 and the four flags over unbounded integers. That C after SUB is the borrow is
D7. -/
def Obligations.AddAndSubtract : Prop :=
  ∀ (s : State) (i : Instr) (d : Reg) (b : Word),
    let a := s.reg d
    let c : Nat := if s.f1.getLsbD 0 && carryFlag s.fl then 1 else 0
    (TwoOperand .addReg .addImm s i d b →
      ∃ t, exec i s = .next t ∧ WritesResult s t d (a + b + BitVec.ofNat 16 c) ∧
        SignZero (a + b + BitVec.ofNat 16 c) t.fl ∧
        (carryFlag t.fl = true ↔ 65535 < a.toNat + b.toNat + c) ∧
        (overflowFlag t.fl = true ↔ SignedOverflow (a.toInt + b.toInt + c))) ∧
    (TwoOperand .subReg .subImm s i d b →
      ∃ t, exec i s = .next t ∧ WritesResult s t d (a - b - BitVec.ofNat 16 c) ∧
        SignZero (a - b - BitVec.ofNat 16 c) t.fl ∧
        (carryFlag t.fl = true ↔ a.toNat < b.toNat + c) ∧
        (overflowFlag t.fl = true ↔ SignedOverflow (a.toInt - b.toInt - c)))

/-- R138, R140: CMP sets the four flags as SUB does and TST sets S and Z from the AND (its O and C are
free, so nothing is said of them); neither writes a register. That C is the borrow is D7. -/
def Obligations.CompareAndTest : Prop :=
  ∀ (s : State) (i : Instr) (d : Reg) (b : Word),
    let a := s.reg d
    let c : Nat := if s.f1.getLsbD 0 && carryFlag s.fl then 1 else 0
    (TwoOperand .cmpReg .cmpImm s i d b →
      ∃ t, exec i s = .next t ∧ WritesNoRegister s t ∧
        SignZero (a - b - BitVec.ofNat 16 c) t.fl ∧
        (carryFlag t.fl = true ↔ a.toNat < b.toNat + c) ∧
        (overflowFlag t.fl = true ↔ SignedOverflow (a.toInt - b.toInt - c))) ∧
    (TwoOperand .tstReg .tstImm s i d b →
      ∃ t, exec i s = .next t ∧ WritesNoRegister s t ∧ SignZero (a &&& b) t.fl)

/-- R137: MUL, in both forms, where extension M is present: the low 16 bits of the product (D7). O and
C are free, so nothing is said of them. -/
def Obligations.MulMultiplies : Prop :=
  ∀ (s : State) (i : Instr) (d : Reg) (b : Word), TwoOperand .mulReg .mulImm s i d b →
    s.has .multiply = true →
    ∃ t, exec i s = .next t ∧ WritesResult s t d (s.reg d * b) ∧ SignZero (s.reg d * b) t.fl

/-- R139: DIV, in both forms, where extension D is present: the unsigned quotient, or with F1.s = 1 the
signed one toward zero, modulo 2^16 (D7); interrupt 4 for a divisor of 0. O and C are free, so nothing
is said of them. -/
def Obligations.DivDivides : Prop :=
  ∀ (s : State) (i : Instr) (d : Reg) (b : Word), TwoOperand .divReg .divImm s i d b →
    s.has .divide = true →
    let q := if s.f1.getLsbD 2 then (s.reg d).sdiv b else (s.reg d).udiv b
    (b ≠ 0 → ∃ t, exec i s = .next t ∧ WritesResult s t d q ∧ SignZero q t.fl) ∧
    (b = 0 → s.ie = true →
      ∃ t, exec i s = .next t ∧ Enters s t 4 0 0 0 ∧ t.pending = s.pending)

/-- R150 to R153: NOT, AND, ORR, XOR, in both forms. O and C are free, so nothing is said of them; for
AND that is D7. -/
def Obligations.LogicInstructions : Prop :=
  ∀ (s : State) (i : Instr) (d : Reg) (b : Word),
    let writes (r : Word) : Prop :=
      ∃ t, exec i s = .next t ∧ WritesResult s t d r ∧ SignZero r t.fl
    (TwoOperand .notReg .notImm s i d b → writes (~~~b)) ∧
    (TwoOperand .andReg .andImm s i d b → writes (s.reg d &&& b)) ∧
    (TwoOperand .orrReg .orrImm s i d b → writes (s.reg d ||| b)) ∧
    (TwoOperand .xorReg .xorImm s i d b → writes (s.reg d ^^^ b))

/-- R154, R155: SHL and SHR, in both forms, by the whole unsigned operand: an amount above 15 shifts
everything out (D7: the amount is never signed). SHR copies the sign bit in where F1.s = 1. O and C are
free, so nothing is said of them. -/
def Obligations.ShiftInstructions : Prop :=
  ∀ (s : State) (i : Instr) (d : Reg) (b : Word),
    let writes (r : Word) : Prop :=
      ∃ t, exec i s = .next t ∧ WritesResult s t d r ∧ SignZero r t.fl
    (TwoOperand .shlReg .shlImm s i d b → writes (s.reg d <<< b.toNat)) ∧
    (TwoOperand .shrReg .shrImm s i d b →
      writes (if s.f1.getLsbD 2 then (s.reg d).sshiftRight b.toNat else s.reg d >>> b.toNat))

/-- R141, R160, R161: MOV in both forms, and MCU and MCS, where extension C is present, if their
condition holds, copy the operand; MCU and MCS otherwise write no register. None writes FL. -/
def Obligations.MoveInstructions : Prop :=
  (∀ (s : State) (i : Instr) (d : Reg) (b : Word), TwoOperand .movReg .movImm s i d b →
    ∃ t, exec i s = .next t ∧ WritesResult s t d b ∧ t.fl = s.fl) ∧
  ∀ (s : State) (i : Instr) (leg : BitVec 3) (d src : Reg), s.has .conditionalMove = true →
    ((i = .mcu leg d src ∧ condU leg s.fl = true) ∨ (i = .mcs leg d src ∧ condS leg s.fl = true) →
      ∃ t, exec i s = .next t ∧ WritesResult s t d (s.reg src) ∧ t.fl = s.fl) ∧
    ((i = .mcu leg d src ∧ condU leg s.fl = false) ∨
        (i = .mcs leg d src ∧ condS leg s.fl = false) →
      ∃ t, exec i s = .next t ∧ WritesNoRegister s t ∧ t.fl = s.fl)

/-- R136, "A multi-word addition is": ADD of the low words with F1.B = 0, then, F1.B set, ADD of the
high words, leave the sum of the 32-bit numbers modulo 2^32. -/
def Obligations.BigIntAdditionAddsTwoWords : Prop :=
  ∀ (s t u : State) (lo hi lo' hi' : Reg), lo ≠ hi → hi' ≠ lo → s.f1.getLsbD 0 = false →
    exec (.addReg lo lo') s = .next t →
    exec (.addReg hi hi') { t with f1 := t.f1 ||| 1 } = .next u →
    u.reg hi ++ u.reg lo =
      (s.reg hi ++ s.reg lo : BitVec 32) + (s.reg hi' ++ s.reg lo' : BitVec 32)

/-! ### The whole machine -/

/-- R35, R200: what the spec gives the state after reset: execution at 0x0000, supervisor, unpaged,
running (its source's sentence); UI 0, interrupts disabled, nothing pending, reserved feature bits 0
(D12). Every other value at reset is the model's choice (entries 2 to 9) and no part of this. -/
def Obligations.ResetState : Prop :=
  State.reset.ip = 0x0000 ∧ State.reset.activePriv = 0x0000 ∧ State.reset.px0 = 0x0000 ∧
  State.reset.pagingActive = false ∧ State.reset.run = .running ∧
  State.reset.ui = 0 ∧ State.reset.ie = false ∧ State.reset.pending = [] ∧
  State.reset.f1 &&& 0xFFF8#16 = 0 ∧ State.reset.f2 &&& 0xFFFE#16 = 0 ∧
  State.reset.params.Legal

/-- The invariant of the machine holds after reset: for the reserved bits of F1 and F2 and for
`pending` by the spec's D12, and for the rest by the model's choices at reset, empty memory (entry 2),
feature bits and registers 0 (entry 3) and CF = 0x010F (entry 4). -/
def Obligations.ResetHasTheInvariant : Prop := State.reset.Inv

/-- The invariant of the machine is kept by every step, from every state: memory in canonical form
(entry 1), the active level supervisor or user (R27), reserved bits of F1 and F2 at 0 and F1.B only
with CF.B (R25), page 0 mapped once paging is on (R55), `pending` a set of requests of interrupt 5
(R184). -/
def Obligations.StepKeepsTheInvariant : Prop :=
  ∀ s t : State, s.Inv → step s = .next t → t.Inv

/-- R187, R188: an instruction executed outside supervisor mode either ends in interrupt entry or
leaves the privileged registers, the mode, the page table in force, the interrupt enable, the run
state and the ports alone. -/
def Obligations.UserModeLeavesTheSystemAlone : Prop :=
  ∀ (i : Instr) (s t : State), s.activePriv ≠ 0x0000 → exec i s = .next t →
    EnteredFrom s t ∨ (SystemKept s t ∧ EnvKept s t)

/-- Of the hidden state of R33, an instruction changes these parts only by interrupt entry (R176) or so:
the interrupt enable as IRT, HLT or HCF (R179); the active level as IRT or PXW of 31 (R188); the run state as HLT or
HCF (R92, R93, R195); the page table in force as PXW of 31 (R31, R54). It asks for no request: what it
raises is entered at once (R176), and requests come from devices (R184). It changes no constant of the
implementation (R7). That PXW of 31 and IRT do so is partly the spec's D11 and D13. -/
def Obligations.OnlyTheListedInstructionsChangeTheSystemState : Prop :=
  ∀ (i : Instr) (s t : State), exec i s = .next t → EnteredFrom s t ∨
    ((t.activePriv ≠ s.activePriv → (∃ low, i = .irt low) ∨ ∃ src, i = .pxw 31 src) ∧
     (t.ie ≠ s.ie → (∃ low, i = .irt low ∨ i = .hlt low) ∨ ∃ low, i = .hcf low) ∧
     (t.run ≠ s.run → ∃ low, i = .hlt low ∨ i = .hcf low) ∧
     ((∃ src, i = .pxw 31 src) ∨ PagingKept s t) ∧
     t.pending = s.pending ∧ t.params = s.params)

/-- R17, R22: an instruction that is not turned away by an interrupt changes FL only if R22 lists it,
and leaves UI at 0 unless it is XWR to UI or IRT. -/
def Obligations.OnlyTheListedInstructionsWriteFlAndUi : Prop :=
  ∀ (i : Instr) (s t : State), exec i s = .next t → EnteredFrom s t ∨
    ((WritesFlags i ∨ t.fl = s.fl) ∧ (WritesUi i ∨ t.ui = 0))

/-- R14, R18, R19, R20, R25: only the listed instructions leave IP elsewhere than at the next
instruction; only CAL and XWR change LR; only POP, PSH and XWR change SP; only XWR changes OF, F1 and
F2. An interrupt entry changes none of LR, SP, OF, F1, F2 (R178). -/
def Obligations.OnlyTheListedInstructionsWriteIpAndSpecials : Prop :=
  ∀ (i : Instr) (s t : State), exec i s = .next t →
    (EnteredFrom s t ∨ WritesIp i ∨ t.ip = s.ip) ∧
    ((∃ imm, i = .calImm imm) ∨ (∃ src low, i = .calReg src low) ∨ WritesXreg 2 i ∨ t.lr = s.lr) ∧
    ((∃ d low, i = .pop d low) ∨ (∃ src low, i = .psh src low) ∨ WritesXreg 3 i ∨ t.sp = s.sp) ∧
    (WritesXreg 4 i ∨ t.offset = s.offset) ∧ (WritesXreg 6 i ∨ t.f1 = s.f1) ∧
    (WritesXreg 7 i ∨ t.f2 = s.f2)

/-- R131: a step changes memory only by running MWR, MWO or PSH, and then only the two cells of the word
that its address names, translated, in the state the instruction runs in; an interrupt, taken or raised,
changes none. -/
def Obligations.OnlyStoresChangeMemory : Prop :=
  (∀ (i : Instr) (s t : State), exec i s = .next t →
    MemoryKept s t ∨ ∃ a pa, Stores i ∧ DataAccess s i .write a ∧
      s.translate .write a = .ok pa ∧ MemoryKeptBut pa s t) ∧
  ∀ s t : State, step s = .next t → MemoryKept s t ∨
    ∃ (i : Instr) (fetched : PAddr) (u : State) (a : Word) (pa : PAddr),
      s.receive.translate .execute s.ip = .ok fetched ∧
      decode (s.receive.fetchedWord fetched) = .ok i ∧
      u = { s.receive with ip := s.ip + 1, fresh := u.fresh } ∧ exec i u = .next t ∧
      Stores i ∧ DataAccess u i .write a ∧ u.translate .write a = .ok pa ∧ MemoryKeptBut pa s t
end

