-- ==== Sys2Proof/Laws/Encoding.lean ====
section
/-! SUPPORT. What each format's word holds: its row's fixed bits, and its fields as the decoder reads
them (spec/30_encoding.md R64 to R71). -/

namespace Sys2Proof

/-! ### wordL -/

theorem wordL_row (op : BitVec 8) (field : BitVec 8) : wordL op field &&& 0xFF00#16 = put op 8 := by
  ext i hi
  interval_cases i <;> simp [wordL, put]

@[simp] theorem topField_wordL (op : BitVec 8) (field : BitVec 8) : topField (wordL op field) = op.extractLsb' 3 5 := by
  ext i hi
  interval_cases i <;> simp [wordL, put, topField]

@[simp] theorem subField_wordL (op : BitVec 8) (field : BitVec 8) : subField (wordL op field) = op.extractLsb' 0 3 := by
  ext i hi
  interval_cases i <;> simp [wordL, put, subField]

@[simp] theorem low8Field_wordL (op : BitVec 8) (field : BitVec 8) : low8Field (wordL op field) = field := by
  ext i hi
  interval_cases i <;> simp [wordL, put, low8Field]

/-! ### wordLReg -/

theorem wordLReg_row (op : BitVec 8) (r : Reg) (field : BitVec 5) : wordLReg op r field &&& 0xFF00#16 = put op 8 := by
  ext i hi
  interval_cases i <;> simp [wordLReg, put]

@[simp] theorem topField_wordLReg (op : BitVec 8) (r : Reg) (field : BitVec 5) : topField (wordLReg op r field) = op.extractLsb' 3 5 := by
  ext i hi
  interval_cases i <;> simp [wordLReg, put, topField]

@[simp] theorem subField_wordLReg (op : BitVec 8) (r : Reg) (field : BitVec 5) : subField (wordLReg op r field) = op.extractLsb' 0 3 := by
  ext i hi
  interval_cases i <;> simp [wordLReg, put, subField]

@[simp] theorem regField_wordLReg (op : BitVec 8) (r : Reg) (field : BitVec 5) : regField (wordLReg op r field) = r := by
  ext i hi
  interval_cases i <;> simp [wordLReg, put, regField]

@[simp] theorem low5Field_wordLReg (op : BitVec 8) (r : Reg) (field : BitVec 5) : low5Field (wordLReg op r field) = field := by
  ext i hi
  interval_cases i <;> simp [wordLReg, put, low5Field]

/-! ### wordRet -/

theorem wordRet_row (op : BitVec 8) (socz : FlagBits) : wordRet op socz &&& 0xFF0F#16 = put op 8 := by
  ext i hi
  interval_cases i <;> simp [wordRet, put]

@[simp] theorem topField_wordRet (op : BitVec 8) (socz : FlagBits) : topField (wordRet op socz) = op.extractLsb' 3 5 := by
  ext i hi
  interval_cases i <;> simp [wordRet, put, topField]

@[simp] theorem subField_wordRet (op : BitVec 8) (socz : FlagBits) : subField (wordRet op socz) = op.extractLsb' 0 3 := by
  ext i hi
  interval_cases i <;> simp [wordRet, put, subField]

/-! ### wordLImm -/

theorem wordLImm_row (op : BitVec 5) (v : BitVec 11) : wordLImm op v &&& 0xF800#16 = put op 11 := by
  ext i hi
  interval_cases i <;> simp [wordLImm, put]

@[simp] theorem topField_wordLImm (op : BitVec 5) (v : BitVec 11) : topField (wordLImm op v) = op := by
  ext i hi
  interval_cases i <;> simp [wordLImm, put, topField]

@[simp] theorem imm11_wordLImm (op : BitVec 5) (v : BitVec 11) : imm11 (wordLImm op v) = v := by
  ext i hi
  interval_cases i <;> simp [wordLImm, put, imm11, immOfField, fieldOfImm]

/-! ### wordJcc -/

theorem wordJcc_row (op : BitVec 5) (leg : BitVec 3) (v : BitVec 8) : wordJcc op leg v &&& 0xF800#16 = put op 11 := by
  ext i hi
  interval_cases i <;> simp [wordJcc, put]

@[simp] theorem topField_wordJcc (op : BitVec 5) (leg : BitVec 3) (v : BitVec 8) : topField (wordJcc op leg v) = op := by
  ext i hi
  interval_cases i <;> simp [wordJcc, put, topField]

@[simp] theorem legField_wordJcc (op : BitVec 5) (leg : BitVec 3) (v : BitVec 8) : legField (wordJcc op leg v) = leg := by
  ext i hi
  interval_cases i <;> simp [wordJcc, put, legField]

@[simp] theorem immJ_wordJcc (op : BitVec 5) (leg : BitVec 3) (v : BitVec 8) : immJ (wordJcc op leg v) = v := by
  ext i hi
  interval_cases i <;> simp [wordJcc, put, immJ, immOfField, fieldOfImm]

/-! ### wordMcc -/

theorem wordMcc_row (op : BitVec 5) (leg : BitVec 3) (d src : Reg) : wordMcc op leg d src &&& 0xF811#16 = put op 11 := by
  ext i hi
  interval_cases i <;> simp [wordMcc, put]

@[simp] theorem topField_wordMcc (op : BitVec 5) (leg : BitVec 3) (d src : Reg) : topField (wordMcc op leg d src) = op := by
  ext i hi
  interval_cases i <;> simp [wordMcc, put, topField]

@[simp] theorem legField_wordMcc (op : BitVec 5) (leg : BitVec 3) (d src : Reg) : legField (wordMcc op leg d src) = leg := by
  ext i hi
  interval_cases i <;> simp [wordMcc, put, legField]

@[simp] theorem regField_wordMcc (op : BitVec 5) (leg : BitVec 3) (d src : Reg) : regField (wordMcc op leg d src) = d := by
  ext i hi
  interval_cases i <;> simp [wordMcc, put, regField]

@[simp] theorem subField_wordMcc (op : BitVec 5) (leg : BitVec 3) (d src : Reg) : subField (wordMcc op leg d src) = src := by
  ext i hi
  interval_cases i <;> simp [wordMcc, put, subField]

/-! ### wordRegImm -/

theorem wordRegImm_row (op : BitVec 5) (r : Reg) (v : BitVec 8) : wordRegImm op r v &&& 0xF800#16 = put op 11 := by
  ext i hi
  interval_cases i <;> simp [wordRegImm, put]

@[simp] theorem topField_wordRegImm (op : BitVec 5) (r : Reg) (v : BitVec 8) : topField (wordRegImm op r v) = op := by
  ext i hi
  interval_cases i <;> simp [wordRegImm, put, topField]

@[simp] theorem regField_wordRegImm (op : BitVec 5) (r : Reg) (v : BitVec 8) : regField (wordRegImm op r v) = r := by
  ext i hi
  interval_cases i <;> simp [wordRegImm, put, regField]

@[simp] theorem immS_wordRegImm (op : BitVec 5) (r : Reg) (v : BitVec 8) : immS (wordRegImm op r v) = v := by
  ext i hi
  interval_cases i <;> simp [wordRegImm, put, immS, immOfField, subField, low5Field, fieldOfImm]

/-! ### wordRegReg -/

theorem wordRegReg_row (op : BitVec 5) (d src : Reg) : wordRegReg op d src &&& 0xF81F#16 = put op 0 := by
  ext i hi
  interval_cases i <;> simp [wordRegReg, put]

@[simp] theorem topField_wordRegReg (op : BitVec 5) (d src : Reg) : topField (wordRegReg op d src) = 0 := by
  ext i hi
  interval_cases i <;> simp [wordRegReg, put, topField]

@[simp] theorem subField_wordRegReg (op : BitVec 5) (d src : Reg) : subField (wordRegReg op d src) = src := by
  ext i hi
  interval_cases i <;> simp [wordRegReg, put, subField]

@[simp] theorem regField_wordRegReg (op : BitVec 5) (d src : Reg) : regField (wordRegReg op d src) = d := by
  ext i hi
  interval_cases i <;> simp [wordRegReg, put, regField]

@[simp] theorem low5Field_wordRegReg (op : BitVec 5) (d src : Reg) : low5Field (wordRegReg op d src) = op := by
  ext i hi
  interval_cases i <;> simp [wordRegReg, put, low5Field]

theorem immOfField_fieldOfImm5 (v : BitVec 5) : immOfField (fieldOfImm v) = v := by
  ext i hi
  interval_cases i <;> simp [immOfField, fieldOfImm]

theorem immOfField_fieldOfImm8 (v : BitVec 8) : immOfField (fieldOfImm v) = v := by
  ext i hi
  interval_cases i <;> simp [immOfField, fieldOfImm]

end Sys2Proof
end

