-- ==== Sys2Proof/Laws/Flags.lean ====
section
/-! SUPPORT. The laws of the flags: FL read back flag by flag, and the sums and differences of
spec/44_arithmetic.md R135 as arithmetic modulo 2^16. -/

namespace Sys2Proof.Machine

/-! ### FL flag by flag -/

@[simp] theorem signFlag_packFlags (s o c z : Bool) : signFlag (packFlags s o c z) = s := by
  cases s <;> cases o <;> cases c <;> cases z <;> rfl

@[simp] theorem overflowFlag_packFlags (s o c z : Bool) : overflowFlag (packFlags s o c z) = o := by
  cases s <;> cases o <;> cases c <;> cases z <;> rfl

@[simp] theorem carryFlag_packFlags (s o c z : Bool) : carryFlag (packFlags s o c z) = c := by
  cases s <;> cases o <;> cases c <;> cases z <;> rfl

@[simp] theorem zeroFlag_packFlags (s o c z : Bool) : zeroFlag (packFlags s o c z) = z := by
  cases s <;> cases o <;> cases c <;> cases z <;> rfl

/-- S after `SZ(r)`, whatever the free bits are. -/
@[simp] theorem State.signFlag_setSZ (s : State) (r : Word) : signFlag (s.setSZ r).fl = r.msb :=
  signFlag_packFlags ..

/-- Z after `SZ(r)`, whatever the free bits are. -/
@[simp] theorem State.zeroFlag_setSZ (s : State) (r : Word) : zeroFlag (s.setSZ r).fl = (r == 0) :=
  zeroFlag_packFlags ..

/-! ### Sums and differences -/

theorem addResult_eq (a b : Word) (cin : Nat) : addResult a b cin = a + b + BitVec.ofNat 16 cin := by
  apply BitVec.eq_of_toNat_eq
  simp only [addResult, BitVec.toNat_add, BitVec.toNat_ofNat]
  omega

theorem subResult_eq (a b : Word) (cin : Nat) : subResult a b cin = a - b - BitVec.ofNat 16 cin := by
  apply BitVec.eq_of_toNat_eq
  have ha := a.isLt
  have hb := b.isLt
  simp only [subResult, BitVec.toNat_ofInt, BitVec.toNat_sub, BitVec.toNat_ofNat]
  omega

/-- No carry comes in outside big-int mode (R136). -/
theorem State.carryIn_off {s : State} (h : s.f1.getLsbD 0 = false) : s.carryIn = 0 := by
  simp only [State.carryIn, State.bigInt, h]; rfl

end Sys2Proof.Machine
end

