-- ==== Sys2Proof/Laws/Memory.lean ====
section
/-! SUPPORT. The laws of memory and of the register file: a read after a write, and that every memory
operation keeps the canonical form. -/

namespace Sys2Proof.Machine

/-! ### Cells -/

theorem Memory.read_write_same (m : Memory) (a : Nat) (b : Byte) (h : m.wf) :
    (m.write a b).read a = b := by
  induction m with
  | nil => by_cases hb : b = Config.unlistedByte <;> simp [Memory.write, Memory.read, hb]
  | cons c m ih =>
    have hm : Memory.wf m := ⟨(List.pairwise_cons.1 h.1).2, fun c' hc' => h.2 c' (List.mem_cons_of_mem _ hc')⟩
    have low : ∀ m' : Memory, (∀ c' ∈ m', a < c'.1) → m'.read a = Config.unlistedByte := by
      intro m' hlt
      induction m' with
      | nil => rfl
      | cons c' m' ih' =>
        have hne : c'.1 ≠ a := Nat.ne_of_gt (hlt c' List.mem_cons_self)
        simp [Memory.read, hne, ih' fun x hx => hlt x (List.mem_cons_of_mem _ hx)]
    have tail : ∀ c' ∈ m, c.1 < c'.1 := (List.pairwise_cons.1 h.1).1
    unfold Memory.write
    split_ifs with h1 h2 h3 h4
    · rw [h2]
      exact low _ fun c' hc' => (List.mem_cons.1 hc').elim (fun e => e ▸ h1)
        fun hc'' => h1.trans (tail c' hc'')
    · simp [Memory.read]
    · rw [h4]
      exact low _ fun c' hc' => h3 ▸ tail c' hc'
    · simp [Memory.read]
    · have hne : c.1 ≠ a := fun e => h3 e.symm
      simp [Memory.read, hne, ih hm]

theorem Memory.read_write_other (m : Memory) (a a' : Nat) (b : Byte) (hne : a' ≠ a) :
    (m.write a b).read a' = m.read a' := by
  induction m with
  | nil =>
    by_cases hb : b = Config.unlistedByte <;> simp [Memory.write, Memory.read, hb, Ne.symm hne]
  | cons c m ih =>
    unfold Memory.write
    split_ifs with h1 h2 h3 h4
    · rfl
    · simp [Memory.read, Ne.symm hne]
    · simp [Memory.read, h3 ▸ Ne.symm hne]
    · simp [Memory.read, Ne.symm hne, h3 ▸ Ne.symm hne]
    · by_cases hc : c.1 = a' <;> simp [Memory.read, hc, ih]

/-- A write adds no cell but its own. -/
theorem Memory.mem_write {m : Memory} {a : Nat} {b : Byte} {c : Host.Cell} (h : c ∈ m.write a b) :
    c ∈ m ∨ c = (a, b) := by
  induction m with
  | nil =>
    unfold Memory.write at h
    split_ifs at h with hb
    · exact .inl h
    · exact .inr (by simpa using h)
  | cons c' m ih =>
    unfold Memory.write at h
    split_ifs at h with h1 h2 h3 h4
    · exact .inl h
    · rcases List.mem_cons.1 h with h | h
      · exact .inr h
      · exact .inl h
    · exact .inl (List.mem_cons_of_mem _ h)
    · rcases List.mem_cons.1 h with h | h
      · exact .inr h
      · exact .inl (List.mem_cons_of_mem _ h)
    · rcases List.mem_cons.1 h with h | h
      · exact .inl (h ▸ List.mem_cons_self)
      · exact (ih h).imp (List.mem_cons_of_mem _) id

theorem Memory.write_wf (m : Memory) (a : Nat) (b : Byte) (h : m.wf) : (m.write a b).wf := by
  induction m with
  | nil => by_cases hb : b = Config.unlistedByte <;> simp [Memory.write, Memory.wf, hb]
  | cons c m ih =>
    obtain ⟨hlt, hp⟩ := List.pairwise_cons.1 h.1
    have hm : Memory.wf m := ⟨hp, fun c' hc' => h.2 c' (List.mem_cons_of_mem _ hc')⟩
    unfold Memory.write
    split_ifs with h1 h2 h3 h4
    · exact h
    · refine ⟨List.pairwise_cons.2 ⟨fun c' hc' => ?_, h.1⟩, fun c' hc' => ?_⟩
      · exact (List.mem_cons.1 hc').elim (fun e => e ▸ h1) fun hc'' => h1.trans (hlt c' hc'')
      · exact (List.mem_cons.1 hc').elim (fun e => e ▸ h2) (h.2 c')
    · exact hm
    · refine ⟨List.pairwise_cons.2 ⟨fun c' hc' => h3 ▸ hlt c' hc', hp⟩, fun c' hc' => ?_⟩
      exact (List.mem_cons.1 hc').elim (fun e => e ▸ h4) (hm.2 c')
    · have hw := ih hm
      refine ⟨List.pairwise_cons.2 ⟨fun c' hc' => ?_, hw.1⟩, fun c' hc' => ?_⟩
      · rcases Memory.mem_write hc' with hc'' | rfl
        · exact hlt c' hc''
        · exact lt_of_le_of_ne (Nat.le_of_not_lt h1) (Ne.symm h3)
      · exact (List.mem_cons.1 hc').elim (fun e => e ▸ h.2 c List.mem_cons_self) (hw.2 c')

/-! ### Words -/

theorem Memory.writeWord_wf (m : Memory) (pa : PAddr) (v : Word) (h : m.wf) :
    (m.writeWord pa v).wf := Memory.write_wf _ _ _ (Memory.write_wf _ _ _ h)

/-- A write of a word changes no cell but its two. -/
theorem Memory.read_writeWord_other (m : Memory) (pa : PAddr) (v : Word) (a : Nat)
    (h0 : a ≠ 2 * pa.toNat) (h1 : a ≠ 2 * pa.toNat + 1) :
    (m.writeWord pa v).read a = m.read a := by
  rw [Memory.writeWord, Memory.read_write_other _ _ _ _ h1, Memory.read_write_other _ _ _ _ h0]

theorem Memory.readWord_writeWord_same (m : Memory) (pa : PAddr) (v : Word) (h : m.wf) :
    (m.writeWord pa v).readWord pa = v := by
  have h' := Memory.write_wf m (2 * pa.toNat) (v.extractLsb' 0 8) h
  rw [Memory.readWord, Memory.writeWord, Memory.read_write_same _ _ _ h',
    Memory.read_write_other _ _ _ _ (by omega), Memory.read_write_same _ _ _ h]
  ext i hi
  simp only [BitVec.getElem_append, BitVec.getElem_extractLsb']
  by_cases h8 : i < 8
  · simp [h8, BitVec.getLsbD_eq_getElem hi]
  · simp [h8, show 8 + (i - 8) = i by omega, BitVec.getLsbD_eq_getElem hi]

theorem Memory.readWord_writeWord_other (m : Memory) (pa pa' : PAddr) (v : Word) (h : pa' ≠ pa) :
    (m.writeWord pa v).readWord pa' = m.readWord pa' := by
  have hn : pa'.toNat ≠ pa.toNat := fun e => h (BitVec.eq_of_toNat_eq e)
  rw [Memory.readWord, Memory.read_writeWord_other _ _ _ _ (by omega) (by omega),
    Memory.read_writeWord_other _ _ _ _ (by omega) (by omega), Memory.readWord]

theorem State.reset_mem_wf : State.reset.mem.wf := by decide

/-! ### General registers -/

@[simp] theorem State.reg_setReg_same (s : State) (i : Reg) (v : Word) : (s.setReg i v).reg i = v := by
  simp [State.reg, State.setReg]

theorem State.reg_setReg_other (s : State) (i j : Reg) (v : Word) (h : j ≠ i) :
    (s.setReg i v).reg j = s.reg j := by
  have hn : i.toNat ≠ j.toNat := fun e => h (BitVec.eq_of_toNat_eq e.symm)
  simp [State.reg, State.setReg, hn]

end Sys2Proof.Machine
end

