-- ==== Sys2Proof/Laws/State.lean ====
section
/-! SUPPORT. What each update of the state leaves in each field, true by `rfl`: later proofs cite these
and unfold no update. -/

namespace Sys2Proof.Machine

/-! ### setReg -/

@[simp] theorem State.setReg_regs (s : State) (i : Reg) (v : Word) :
    (s.setReg i v).regs = s.regs.set i.toNat v := rfl
@[simp] theorem State.setReg_ip (s : State) (i : Reg) (v : Word) :
    (s.setReg i v).ip = s.ip := rfl
@[simp] theorem State.setReg_ui (s : State) (i : Reg) (v : Word) :
    (s.setReg i v).ui = s.ui := rfl
@[simp] theorem State.setReg_lr (s : State) (i : Reg) (v : Word) :
    (s.setReg i v).lr = s.lr := rfl
@[simp] theorem State.setReg_sp (s : State) (i : Reg) (v : Word) :
    (s.setReg i v).sp = s.sp := rfl
@[simp] theorem State.setReg_offset (s : State) (i : Reg) (v : Word) :
    (s.setReg i v).offset = s.offset := rfl
@[simp] theorem State.setReg_fl (s : State) (i : Reg) (v : Word) :
    (s.setReg i v).fl = s.fl := rfl
@[simp] theorem State.setReg_f1 (s : State) (i : Reg) (v : Word) :
    (s.setReg i v).f1 = s.f1 := rfl
@[simp] theorem State.setReg_f2 (s : State) (i : Reg) (v : Word) :
    (s.setReg i v).f2 = s.f2 := rfl
@[simp] theorem State.setReg_px0 (s : State) (i : Reg) (v : Word) :
    (s.setReg i v).px0 = s.px0 := rfl
@[simp] theorem State.setReg_px1 (s : State) (i : Reg) (v : Word) :
    (s.setReg i v).px1 = s.px1 := rfl
@[simp] theorem State.setReg_px10 (s : State) (i : Reg) (v : Word) :
    (s.setReg i v).px10 = s.px10 := rfl
@[simp] theorem State.setReg_px11 (s : State) (i : Reg) (v : Word) :
    (s.setReg i v).px11 = s.px11 := rfl
@[simp] theorem State.setReg_px12 (s : State) (i : Reg) (v : Word) :
    (s.setReg i v).px12 = s.px12 := rfl
@[simp] theorem State.setReg_px13 (s : State) (i : Reg) (v : Word) :
    (s.setReg i v).px13 = s.px13 := rfl
@[simp] theorem State.setReg_px14 (s : State) (i : Reg) (v : Word) :
    (s.setReg i v).px14 = s.px14 := rfl
@[simp] theorem State.setReg_ie (s : State) (i : Reg) (v : Word) :
    (s.setReg i v).ie = s.ie := rfl
@[simp] theorem State.setReg_savedFl (s : State) (i : Reg) (v : Word) :
    (s.setReg i v).savedFl = s.savedFl := rfl
@[simp] theorem State.setReg_savedUi (s : State) (i : Reg) (v : Word) :
    (s.setReg i v).savedUi = s.savedUi := rfl
@[simp] theorem State.setReg_activePriv (s : State) (i : Reg) (v : Word) :
    (s.setReg i v).activePriv = s.activePriv := rfl
@[simp] theorem State.setReg_pagingActive (s : State) (i : Reg) (v : Word) :
    (s.setReg i v).pagingActive = s.pagingActive := rfl
@[simp] theorem State.setReg_ptBase (s : State) (i : Reg) (v : Word) :
    (s.setReg i v).ptBase = s.ptBase := rfl
@[simp] theorem State.setReg_ptCache (s : State) (i : Reg) (v : Word) :
    (s.setReg i v).ptCache = s.ptCache := rfl
@[simp] theorem State.setReg_run (s : State) (i : Reg) (v : Word) :
    (s.setReg i v).run = s.run := rfl
@[simp] theorem State.setReg_pending (s : State) (i : Reg) (v : Word) :
    (s.setReg i v).pending = s.pending := rfl
@[simp] theorem State.setReg_mem (s : State) (i : Reg) (v : Word) :
    (s.setReg i v).mem = s.mem := rfl
@[simp] theorem State.setReg_replaced (s : State) (i : Reg) (v : Word) :
    (s.setReg i v).replaced = s.replaced := rfl
@[simp] theorem State.setReg_params (s : State) (i : Reg) (v : Word) :
    (s.setReg i v).params = s.params := rfl
@[simp] theorem State.setReg_arrivals (s : State) (i : Reg) (v : Word) :
    (s.setReg i v).arrivals = s.arrivals := rfl
@[simp] theorem State.setReg_portAnswers (s : State) (i : Reg) (v : Word) :
    (s.setReg i v).portAnswers = s.portAnswers := rfl
@[simp] theorem State.setReg_portTrace (s : State) (i : Reg) (v : Word) :
    (s.setReg i v).portTrace = s.portTrace := rfl
@[simp] theorem State.setReg_fresh (s : State) (i : Reg) (v : Word) :
    (s.setReg i v).fresh = s.fresh := rfl

/-! ### storeWord -/

@[simp] theorem State.storeWord_regs (s : State) (pa : PAddr) (v : Word) :
    (s.storeWord pa v).regs = s.regs := rfl
@[simp] theorem State.storeWord_ip (s : State) (pa : PAddr) (v : Word) :
    (s.storeWord pa v).ip = s.ip := rfl
@[simp] theorem State.storeWord_ui (s : State) (pa : PAddr) (v : Word) :
    (s.storeWord pa v).ui = s.ui := rfl
@[simp] theorem State.storeWord_lr (s : State) (pa : PAddr) (v : Word) :
    (s.storeWord pa v).lr = s.lr := rfl
@[simp] theorem State.storeWord_sp (s : State) (pa : PAddr) (v : Word) :
    (s.storeWord pa v).sp = s.sp := rfl
@[simp] theorem State.storeWord_offset (s : State) (pa : PAddr) (v : Word) :
    (s.storeWord pa v).offset = s.offset := rfl
@[simp] theorem State.storeWord_fl (s : State) (pa : PAddr) (v : Word) :
    (s.storeWord pa v).fl = s.fl := rfl
@[simp] theorem State.storeWord_f1 (s : State) (pa : PAddr) (v : Word) :
    (s.storeWord pa v).f1 = s.f1 := rfl
@[simp] theorem State.storeWord_f2 (s : State) (pa : PAddr) (v : Word) :
    (s.storeWord pa v).f2 = s.f2 := rfl
@[simp] theorem State.storeWord_px0 (s : State) (pa : PAddr) (v : Word) :
    (s.storeWord pa v).px0 = s.px0 := rfl
@[simp] theorem State.storeWord_px1 (s : State) (pa : PAddr) (v : Word) :
    (s.storeWord pa v).px1 = s.px1 := rfl
@[simp] theorem State.storeWord_px10 (s : State) (pa : PAddr) (v : Word) :
    (s.storeWord pa v).px10 = s.px10 := rfl
@[simp] theorem State.storeWord_px11 (s : State) (pa : PAddr) (v : Word) :
    (s.storeWord pa v).px11 = s.px11 := rfl
@[simp] theorem State.storeWord_px12 (s : State) (pa : PAddr) (v : Word) :
    (s.storeWord pa v).px12 = s.px12 := rfl
@[simp] theorem State.storeWord_px13 (s : State) (pa : PAddr) (v : Word) :
    (s.storeWord pa v).px13 = s.px13 := rfl
@[simp] theorem State.storeWord_px14 (s : State) (pa : PAddr) (v : Word) :
    (s.storeWord pa v).px14 = s.px14 := rfl
@[simp] theorem State.storeWord_ie (s : State) (pa : PAddr) (v : Word) :
    (s.storeWord pa v).ie = s.ie := rfl
@[simp] theorem State.storeWord_savedFl (s : State) (pa : PAddr) (v : Word) :
    (s.storeWord pa v).savedFl = s.savedFl := rfl
@[simp] theorem State.storeWord_savedUi (s : State) (pa : PAddr) (v : Word) :
    (s.storeWord pa v).savedUi = s.savedUi := rfl
@[simp] theorem State.storeWord_activePriv (s : State) (pa : PAddr) (v : Word) :
    (s.storeWord pa v).activePriv = s.activePriv := rfl
@[simp] theorem State.storeWord_pagingActive (s : State) (pa : PAddr) (v : Word) :
    (s.storeWord pa v).pagingActive = s.pagingActive := rfl
@[simp] theorem State.storeWord_ptBase (s : State) (pa : PAddr) (v : Word) :
    (s.storeWord pa v).ptBase = s.ptBase := rfl
@[simp] theorem State.storeWord_ptCache (s : State) (pa : PAddr) (v : Word) :
    (s.storeWord pa v).ptCache = s.ptCache := rfl
@[simp] theorem State.storeWord_run (s : State) (pa : PAddr) (v : Word) :
    (s.storeWord pa v).run = s.run := rfl
@[simp] theorem State.storeWord_pending (s : State) (pa : PAddr) (v : Word) :
    (s.storeWord pa v).pending = s.pending := rfl
@[simp] theorem State.storeWord_mem (s : State) (pa : PAddr) (v : Word) :
    (s.storeWord pa v).mem = s.mem.writeWord pa v := rfl
@[simp] theorem State.storeWord_replaced (s : State) (pa : PAddr) (v : Word) :
    (s.storeWord pa v).replaced = s.replaced.insert (pa, s.mem.readWord pa) := rfl
@[simp] theorem State.storeWord_params (s : State) (pa : PAddr) (v : Word) :
    (s.storeWord pa v).params = s.params := rfl
@[simp] theorem State.storeWord_arrivals (s : State) (pa : PAddr) (v : Word) :
    (s.storeWord pa v).arrivals = s.arrivals := rfl
@[simp] theorem State.storeWord_portAnswers (s : State) (pa : PAddr) (v : Word) :
    (s.storeWord pa v).portAnswers = s.portAnswers := rfl
@[simp] theorem State.storeWord_portTrace (s : State) (pa : PAddr) (v : Word) :
    (s.storeWord pa v).portTrace = s.portTrace := rfl
@[simp] theorem State.storeWord_fresh (s : State) (pa : PAddr) (v : Word) :
    (s.storeWord pa v).fresh = s.fresh := rfl

/-! ### setSZ -/

@[simp] theorem State.setSZ_regs (s : State) (r : Word) :
    (s.setSZ r).regs = s.regs := rfl
@[simp] theorem State.setSZ_ip (s : State) (r : Word) :
    (s.setSZ r).ip = s.ip := rfl
@[simp] theorem State.setSZ_ui (s : State) (r : Word) :
    (s.setSZ r).ui = s.ui := rfl
@[simp] theorem State.setSZ_lr (s : State) (r : Word) :
    (s.setSZ r).lr = s.lr := rfl
@[simp] theorem State.setSZ_sp (s : State) (r : Word) :
    (s.setSZ r).sp = s.sp := rfl
@[simp] theorem State.setSZ_offset (s : State) (r : Word) :
    (s.setSZ r).offset = s.offset := rfl
@[simp] theorem State.setSZ_fl (s : State) (r : Word) :
    (s.setSZ r).fl = packFlags r.msb (Config.freeBit s.fresh) (Config.freeBit (s.fresh + 1)) (r == 0) := rfl
@[simp] theorem State.setSZ_f1 (s : State) (r : Word) :
    (s.setSZ r).f1 = s.f1 := rfl
@[simp] theorem State.setSZ_f2 (s : State) (r : Word) :
    (s.setSZ r).f2 = s.f2 := rfl
@[simp] theorem State.setSZ_px0 (s : State) (r : Word) :
    (s.setSZ r).px0 = s.px0 := rfl
@[simp] theorem State.setSZ_px1 (s : State) (r : Word) :
    (s.setSZ r).px1 = s.px1 := rfl
@[simp] theorem State.setSZ_px10 (s : State) (r : Word) :
    (s.setSZ r).px10 = s.px10 := rfl
@[simp] theorem State.setSZ_px11 (s : State) (r : Word) :
    (s.setSZ r).px11 = s.px11 := rfl
@[simp] theorem State.setSZ_px12 (s : State) (r : Word) :
    (s.setSZ r).px12 = s.px12 := rfl
@[simp] theorem State.setSZ_px13 (s : State) (r : Word) :
    (s.setSZ r).px13 = s.px13 := rfl
@[simp] theorem State.setSZ_px14 (s : State) (r : Word) :
    (s.setSZ r).px14 = s.px14 := rfl
@[simp] theorem State.setSZ_ie (s : State) (r : Word) :
    (s.setSZ r).ie = s.ie := rfl
@[simp] theorem State.setSZ_savedFl (s : State) (r : Word) :
    (s.setSZ r).savedFl = s.savedFl := rfl
@[simp] theorem State.setSZ_savedUi (s : State) (r : Word) :
    (s.setSZ r).savedUi = s.savedUi := rfl
@[simp] theorem State.setSZ_activePriv (s : State) (r : Word) :
    (s.setSZ r).activePriv = s.activePriv := rfl
@[simp] theorem State.setSZ_pagingActive (s : State) (r : Word) :
    (s.setSZ r).pagingActive = s.pagingActive := rfl
@[simp] theorem State.setSZ_ptBase (s : State) (r : Word) :
    (s.setSZ r).ptBase = s.ptBase := rfl
@[simp] theorem State.setSZ_ptCache (s : State) (r : Word) :
    (s.setSZ r).ptCache = s.ptCache := rfl
@[simp] theorem State.setSZ_run (s : State) (r : Word) :
    (s.setSZ r).run = s.run := rfl
@[simp] theorem State.setSZ_pending (s : State) (r : Word) :
    (s.setSZ r).pending = s.pending := rfl
@[simp] theorem State.setSZ_mem (s : State) (r : Word) :
    (s.setSZ r).mem = s.mem := rfl
@[simp] theorem State.setSZ_replaced (s : State) (r : Word) :
    (s.setSZ r).replaced = s.replaced := rfl
@[simp] theorem State.setSZ_params (s : State) (r : Word) :
    (s.setSZ r).params = s.params := rfl
@[simp] theorem State.setSZ_arrivals (s : State) (r : Word) :
    (s.setSZ r).arrivals = s.arrivals := rfl
@[simp] theorem State.setSZ_portAnswers (s : State) (r : Word) :
    (s.setSZ r).portAnswers = s.portAnswers := rfl
@[simp] theorem State.setSZ_portTrace (s : State) (r : Word) :
    (s.setSZ r).portTrace = s.portTrace := rfl
@[simp] theorem State.setSZ_fresh (s : State) (r : Word) :
    (s.setSZ r).fresh = s.fresh + 2 := rfl

/-! ### jumpBy -/

@[simp] theorem State.jumpBy_regs (s : State) (off : Word) :
    (s.jumpBy off).regs = s.regs := rfl
@[simp] theorem State.jumpBy_ip (s : State) (off : Word) :
    (s.jumpBy off).ip = s.ip + off := rfl
@[simp] theorem State.jumpBy_ui (s : State) (off : Word) :
    (s.jumpBy off).ui = s.ui := rfl
@[simp] theorem State.jumpBy_lr (s : State) (off : Word) :
    (s.jumpBy off).lr = s.lr := rfl
@[simp] theorem State.jumpBy_sp (s : State) (off : Word) :
    (s.jumpBy off).sp = s.sp := rfl
@[simp] theorem State.jumpBy_offset (s : State) (off : Word) :
    (s.jumpBy off).offset = s.offset := rfl
@[simp] theorem State.jumpBy_fl (s : State) (off : Word) :
    (s.jumpBy off).fl = s.fl := rfl
@[simp] theorem State.jumpBy_f1 (s : State) (off : Word) :
    (s.jumpBy off).f1 = s.f1 := rfl
@[simp] theorem State.jumpBy_f2 (s : State) (off : Word) :
    (s.jumpBy off).f2 = s.f2 := rfl
@[simp] theorem State.jumpBy_px0 (s : State) (off : Word) :
    (s.jumpBy off).px0 = s.px0 := rfl
@[simp] theorem State.jumpBy_px1 (s : State) (off : Word) :
    (s.jumpBy off).px1 = s.px1 := rfl
@[simp] theorem State.jumpBy_px10 (s : State) (off : Word) :
    (s.jumpBy off).px10 = s.px10 := rfl
@[simp] theorem State.jumpBy_px11 (s : State) (off : Word) :
    (s.jumpBy off).px11 = s.px11 := rfl
@[simp] theorem State.jumpBy_px12 (s : State) (off : Word) :
    (s.jumpBy off).px12 = s.px12 := rfl
@[simp] theorem State.jumpBy_px13 (s : State) (off : Word) :
    (s.jumpBy off).px13 = s.px13 := rfl
@[simp] theorem State.jumpBy_px14 (s : State) (off : Word) :
    (s.jumpBy off).px14 = s.px14 := rfl
@[simp] theorem State.jumpBy_ie (s : State) (off : Word) :
    (s.jumpBy off).ie = s.ie := rfl
@[simp] theorem State.jumpBy_savedFl (s : State) (off : Word) :
    (s.jumpBy off).savedFl = s.savedFl := rfl
@[simp] theorem State.jumpBy_savedUi (s : State) (off : Word) :
    (s.jumpBy off).savedUi = s.savedUi := rfl
@[simp] theorem State.jumpBy_activePriv (s : State) (off : Word) :
    (s.jumpBy off).activePriv = s.activePriv := rfl
@[simp] theorem State.jumpBy_pagingActive (s : State) (off : Word) :
    (s.jumpBy off).pagingActive = s.pagingActive := rfl
@[simp] theorem State.jumpBy_ptBase (s : State) (off : Word) :
    (s.jumpBy off).ptBase = s.ptBase := rfl
@[simp] theorem State.jumpBy_ptCache (s : State) (off : Word) :
    (s.jumpBy off).ptCache = s.ptCache := rfl
@[simp] theorem State.jumpBy_run (s : State) (off : Word) :
    (s.jumpBy off).run = s.run := rfl
@[simp] theorem State.jumpBy_pending (s : State) (off : Word) :
    (s.jumpBy off).pending = s.pending := rfl
@[simp] theorem State.jumpBy_mem (s : State) (off : Word) :
    (s.jumpBy off).mem = s.mem := rfl
@[simp] theorem State.jumpBy_replaced (s : State) (off : Word) :
    (s.jumpBy off).replaced = s.replaced := rfl
@[simp] theorem State.jumpBy_params (s : State) (off : Word) :
    (s.jumpBy off).params = s.params := rfl
@[simp] theorem State.jumpBy_arrivals (s : State) (off : Word) :
    (s.jumpBy off).arrivals = s.arrivals := rfl
@[simp] theorem State.jumpBy_portAnswers (s : State) (off : Word) :
    (s.jumpBy off).portAnswers = s.portAnswers := rfl
@[simp] theorem State.jumpBy_portTrace (s : State) (off : Word) :
    (s.jumpBy off).portTrace = s.portTrace := rfl
@[simp] theorem State.jumpBy_fresh (s : State) (off : Word) :
    (s.jumpBy off).fresh = s.fresh := rfl

/-! ### advanceIp -/

@[simp] theorem State.advanceIp_regs (s : State) :
    (s.advanceIp).regs = s.regs := rfl
@[simp] theorem State.advanceIp_ip (s : State) :
    (s.advanceIp).ip = s.ip + 1 := rfl
@[simp] theorem State.advanceIp_ui (s : State) :
    (s.advanceIp).ui = s.ui := rfl
@[simp] theorem State.advanceIp_lr (s : State) :
    (s.advanceIp).lr = s.lr := rfl
@[simp] theorem State.advanceIp_sp (s : State) :
    (s.advanceIp).sp = s.sp := rfl
@[simp] theorem State.advanceIp_offset (s : State) :
    (s.advanceIp).offset = s.offset := rfl
@[simp] theorem State.advanceIp_fl (s : State) :
    (s.advanceIp).fl = s.fl := rfl
@[simp] theorem State.advanceIp_f1 (s : State) :
    (s.advanceIp).f1 = s.f1 := rfl
@[simp] theorem State.advanceIp_f2 (s : State) :
    (s.advanceIp).f2 = s.f2 := rfl
@[simp] theorem State.advanceIp_px0 (s : State) :
    (s.advanceIp).px0 = s.px0 := rfl
@[simp] theorem State.advanceIp_px1 (s : State) :
    (s.advanceIp).px1 = s.px1 := rfl
@[simp] theorem State.advanceIp_px10 (s : State) :
    (s.advanceIp).px10 = s.px10 := rfl
@[simp] theorem State.advanceIp_px11 (s : State) :
    (s.advanceIp).px11 = s.px11 := rfl
@[simp] theorem State.advanceIp_px12 (s : State) :
    (s.advanceIp).px12 = s.px12 := rfl
@[simp] theorem State.advanceIp_px13 (s : State) :
    (s.advanceIp).px13 = s.px13 := rfl
@[simp] theorem State.advanceIp_px14 (s : State) :
    (s.advanceIp).px14 = s.px14 := rfl
@[simp] theorem State.advanceIp_ie (s : State) :
    (s.advanceIp).ie = s.ie := rfl
@[simp] theorem State.advanceIp_savedFl (s : State) :
    (s.advanceIp).savedFl = s.savedFl := rfl
@[simp] theorem State.advanceIp_savedUi (s : State) :
    (s.advanceIp).savedUi = s.savedUi := rfl
@[simp] theorem State.advanceIp_activePriv (s : State) :
    (s.advanceIp).activePriv = s.activePriv := rfl
@[simp] theorem State.advanceIp_pagingActive (s : State) :
    (s.advanceIp).pagingActive = s.pagingActive := rfl
@[simp] theorem State.advanceIp_ptBase (s : State) :
    (s.advanceIp).ptBase = s.ptBase := rfl
@[simp] theorem State.advanceIp_ptCache (s : State) :
    (s.advanceIp).ptCache = s.ptCache := rfl
@[simp] theorem State.advanceIp_run (s : State) :
    (s.advanceIp).run = s.run := rfl
@[simp] theorem State.advanceIp_pending (s : State) :
    (s.advanceIp).pending = s.pending := rfl
@[simp] theorem State.advanceIp_mem (s : State) :
    (s.advanceIp).mem = s.mem := rfl
@[simp] theorem State.advanceIp_replaced (s : State) :
    (s.advanceIp).replaced = s.replaced := rfl
@[simp] theorem State.advanceIp_params (s : State) :
    (s.advanceIp).params = s.params := rfl
@[simp] theorem State.advanceIp_arrivals (s : State) :
    (s.advanceIp).arrivals = s.arrivals := rfl
@[simp] theorem State.advanceIp_portAnswers (s : State) :
    (s.advanceIp).portAnswers = s.portAnswers := rfl
@[simp] theorem State.advanceIp_portTrace (s : State) :
    (s.advanceIp).portTrace = s.portTrace := rfl
@[simp] theorem State.advanceIp_fresh (s : State) :
    (s.advanceIp).fresh = s.fresh := rfl

/-! ### enter -/

@[simp] theorem State.enter_regs (s : State) (r : Request) :
    (s.enter r).regs = s.regs := rfl
@[simp] theorem State.enter_ip (s : State) (r : Request) :
    (s.enter r).ip = s.params.handlerAddr := rfl
@[simp] theorem State.enter_ui (s : State) (r : Request) :
    (s.enter r).ui = 0 := rfl
@[simp] theorem State.enter_lr (s : State) (r : Request) :
    (s.enter r).lr = s.lr := rfl
@[simp] theorem State.enter_sp (s : State) (r : Request) :
    (s.enter r).sp = s.sp := rfl
@[simp] theorem State.enter_offset (s : State) (r : Request) :
    (s.enter r).offset = s.offset := rfl
@[simp] theorem State.enter_fl (s : State) (r : Request) :
    (s.enter r).fl = s.fl := rfl
@[simp] theorem State.enter_f1 (s : State) (r : Request) :
    (s.enter r).f1 = s.f1 := rfl
@[simp] theorem State.enter_f2 (s : State) (r : Request) :
    (s.enter r).f2 = s.f2 := rfl
@[simp] theorem State.enter_px0 (s : State) (r : Request) :
    (s.enter r).px0 = 0 := rfl
@[simp] theorem State.enter_px1 (s : State) (r : Request) :
    (s.enter r).px1 = s.px1 := rfl
@[simp] theorem State.enter_px10 (s : State) (r : Request) :
    (s.enter r).px10 = r.id.setWidth 16 := rfl
@[simp] theorem State.enter_px11 (s : State) (r : Request) :
    (s.enter r).px11 = s.ip := rfl
@[simp] theorem State.enter_px12 (s : State) (r : Request) :
    (s.enter r).px12 = r.info0 := rfl
@[simp] theorem State.enter_px13 (s : State) (r : Request) :
    (s.enter r).px13 = r.info1 := rfl
@[simp] theorem State.enter_px14 (s : State) (r : Request) :
    (s.enter r).px14 = r.info2 := rfl
@[simp] theorem State.enter_ie (s : State) (r : Request) :
    (s.enter r).ie = false := rfl
@[simp] theorem State.enter_savedFl (s : State) (r : Request) :
    (s.enter r).savedFl = s.fl := rfl
@[simp] theorem State.enter_savedUi (s : State) (r : Request) :
    (s.enter r).savedUi = s.ui := rfl
@[simp] theorem State.enter_activePriv (s : State) (r : Request) :
    (s.enter r).activePriv = 0 := rfl
@[simp] theorem State.enter_pagingActive (s : State) (r : Request) :
    (s.enter r).pagingActive = s.pagingActive := rfl
@[simp] theorem State.enter_ptBase (s : State) (r : Request) :
    (s.enter r).ptBase = s.ptBase := rfl
@[simp] theorem State.enter_ptCache (s : State) (r : Request) :
    (s.enter r).ptCache = s.ptCache := rfl
@[simp] theorem State.enter_run (s : State) (r : Request) :
    (s.enter r).run = .running := rfl
@[simp] theorem State.enter_pending (s : State) (r : Request) :
    (s.enter r).pending = s.pending := rfl
@[simp] theorem State.enter_mem (s : State) (r : Request) :
    (s.enter r).mem = s.mem := rfl
@[simp] theorem State.enter_replaced (s : State) (r : Request) :
    (s.enter r).replaced = s.replaced := rfl
@[simp] theorem State.enter_params (s : State) (r : Request) :
    (s.enter r).params = s.params := rfl
@[simp] theorem State.enter_arrivals (s : State) (r : Request) :
    (s.enter r).arrivals = s.arrivals := rfl
@[simp] theorem State.enter_portAnswers (s : State) (r : Request) :
    (s.enter r).portAnswers = s.portAnswers := rfl
@[simp] theorem State.enter_portTrace (s : State) (r : Request) :
    (s.enter r).portTrace = s.portTrace := rfl
@[simp] theorem State.enter_fresh (s : State) (r : Request) :
    (s.enter r).fresh = s.fresh := rfl

/-! ### leave -/

@[simp] theorem State.leave_regs (s : State) :
    (s.leave).regs = s.regs := rfl
@[simp] theorem State.leave_ip (s : State) :
    (s.leave).ip = s.px11 := rfl
@[simp] theorem State.leave_ui (s : State) :
    (s.leave).ui = s.savedUi := rfl
@[simp] theorem State.leave_lr (s : State) :
    (s.leave).lr = s.lr := rfl
@[simp] theorem State.leave_sp (s : State) :
    (s.leave).sp = s.sp := rfl
@[simp] theorem State.leave_offset (s : State) :
    (s.leave).offset = s.offset := rfl
@[simp] theorem State.leave_fl (s : State) :
    (s.leave).fl = s.savedFl := rfl
@[simp] theorem State.leave_f1 (s : State) :
    (s.leave).f1 = s.f1 := rfl
@[simp] theorem State.leave_f2 (s : State) :
    (s.leave).f2 = s.f2 := rfl
@[simp] theorem State.leave_px0 (s : State) :
    (s.leave).px0 = 0x0003 := rfl
@[simp] theorem State.leave_px1 (s : State) :
    (s.leave).px1 = s.px1 := rfl
@[simp] theorem State.leave_px10 (s : State) :
    (s.leave).px10 = s.px10 := rfl
@[simp] theorem State.leave_px11 (s : State) :
    (s.leave).px11 = s.px11 := rfl
@[simp] theorem State.leave_px12 (s : State) :
    (s.leave).px12 = s.px12 := rfl
@[simp] theorem State.leave_px13 (s : State) :
    (s.leave).px13 = s.px13 := rfl
@[simp] theorem State.leave_px14 (s : State) :
    (s.leave).px14 = s.px14 := rfl
@[simp] theorem State.leave_ie (s : State) :
    (s.leave).ie = true := rfl
@[simp] theorem State.leave_savedFl (s : State) :
    (s.leave).savedFl = s.savedFl := rfl
@[simp] theorem State.leave_savedUi (s : State) :
    (s.leave).savedUi = s.savedUi := rfl
@[simp] theorem State.leave_activePriv (s : State) :
    (s.leave).activePriv = 0x0003 := rfl
@[simp] theorem State.leave_pagingActive (s : State) :
    (s.leave).pagingActive = s.pagingActive := rfl
@[simp] theorem State.leave_ptBase (s : State) :
    (s.leave).ptBase = s.ptBase := rfl
@[simp] theorem State.leave_ptCache (s : State) :
    (s.leave).ptCache = s.ptCache := rfl
@[simp] theorem State.leave_run (s : State) :
    (s.leave).run = s.run := rfl
@[simp] theorem State.leave_pending (s : State) :
    (s.leave).pending = s.pending := rfl
@[simp] theorem State.leave_mem (s : State) :
    (s.leave).mem = s.mem := rfl
@[simp] theorem State.leave_replaced (s : State) :
    (s.leave).replaced = s.replaced := rfl
@[simp] theorem State.leave_params (s : State) :
    (s.leave).params = s.params := rfl
@[simp] theorem State.leave_arrivals (s : State) :
    (s.leave).arrivals = s.arrivals := rfl
@[simp] theorem State.leave_portAnswers (s : State) :
    (s.leave).portAnswers = s.portAnswers := rfl
@[simp] theorem State.leave_portTrace (s : State) :
    (s.leave).portTrace = s.portTrace := rfl
@[simp] theorem State.leave_fresh (s : State) :
    (s.leave).fresh = s.fresh := rfl

/-! ### refreshed -/

@[simp] theorem State.refreshed_regs (s : State) :
    (s.refreshed).regs = s.regs := rfl
@[simp] theorem State.refreshed_ip (s : State) :
    (s.refreshed).ip = 0 := rfl
@[simp] theorem State.refreshed_ui (s : State) :
    (s.refreshed).ui = s.ui := rfl
@[simp] theorem State.refreshed_lr (s : State) :
    (s.refreshed).lr = s.lr := rfl
@[simp] theorem State.refreshed_sp (s : State) :
    (s.refreshed).sp = s.sp := rfl
@[simp] theorem State.refreshed_offset (s : State) :
    (s.refreshed).offset = s.offset := rfl
@[simp] theorem State.refreshed_fl (s : State) :
    (s.refreshed).fl = s.fl := rfl
@[simp] theorem State.refreshed_f1 (s : State) :
    (s.refreshed).f1 = s.f1 := rfl
@[simp] theorem State.refreshed_f2 (s : State) :
    (s.refreshed).f2 = s.f2 := rfl
@[simp] theorem State.refreshed_px0 (s : State) :
    (s.refreshed).px0 = s.px0 := rfl
@[simp] theorem State.refreshed_px1 (s : State) :
    (s.refreshed).px1 = s.px1 := rfl
@[simp] theorem State.refreshed_px10 (s : State) :
    (s.refreshed).px10 = s.px10 := rfl
@[simp] theorem State.refreshed_px11 (s : State) :
    (s.refreshed).px11 = s.px11 := rfl
@[simp] theorem State.refreshed_px12 (s : State) :
    (s.refreshed).px12 = s.px12 := rfl
@[simp] theorem State.refreshed_px13 (s : State) :
    (s.refreshed).px13 = s.px13 := rfl
@[simp] theorem State.refreshed_px14 (s : State) :
    (s.refreshed).px14 = s.px14 := rfl
@[simp] theorem State.refreshed_ie (s : State) :
    (s.refreshed).ie = s.ie := rfl
@[simp] theorem State.refreshed_savedFl (s : State) :
    (s.refreshed).savedFl = s.savedFl := rfl
@[simp] theorem State.refreshed_savedUi (s : State) :
    (s.refreshed).savedUi = s.savedUi := rfl
@[simp] theorem State.refreshed_activePriv (s : State) :
    (s.refreshed).activePriv = s.px0 := rfl
@[simp] theorem State.refreshed_pagingActive (s : State) :
    (s.refreshed).pagingActive = true := rfl
@[simp] theorem State.refreshed_ptBase (s : State) :
    (s.refreshed).ptBase = s.px1 := rfl
@[simp] theorem State.refreshed_ptCache (s : State) :
    (s.refreshed).ptCache = s.pageTable s.px1 := rfl
@[simp] theorem State.refreshed_run (s : State) :
    (s.refreshed).run = s.run := rfl
@[simp] theorem State.refreshed_pending (s : State) :
    (s.refreshed).pending = s.pending := rfl
@[simp] theorem State.refreshed_mem (s : State) :
    (s.refreshed).mem = s.mem := rfl
@[simp] theorem State.refreshed_replaced (s : State) :
    (s.refreshed).replaced = s.replaced := rfl
@[simp] theorem State.refreshed_params (s : State) :
    (s.refreshed).params = s.params := rfl
@[simp] theorem State.refreshed_arrivals (s : State) :
    (s.refreshed).arrivals = s.arrivals := rfl
@[simp] theorem State.refreshed_portAnswers (s : State) :
    (s.refreshed).portAnswers = s.portAnswers := rfl
@[simp] theorem State.refreshed_portTrace (s : State) :
    (s.refreshed).portTrace = s.portTrace := rfl
@[simp] theorem State.refreshed_fresh (s : State) :
    (s.refreshed).fresh = s.fresh + 16 := rfl

/-! ### takeRequest -/

@[simp] theorem State.takeRequest_regs (s : State) (r : Request) :
    (s.takeRequest r).regs = s.regs := rfl
@[simp] theorem State.takeRequest_ip (s : State) (r : Request) :
    (s.takeRequest r).ip = s.params.handlerAddr := rfl
@[simp] theorem State.takeRequest_ui (s : State) (r : Request) :
    (s.takeRequest r).ui = 0 := rfl
@[simp] theorem State.takeRequest_lr (s : State) (r : Request) :
    (s.takeRequest r).lr = s.lr := rfl
@[simp] theorem State.takeRequest_sp (s : State) (r : Request) :
    (s.takeRequest r).sp = s.sp := rfl
@[simp] theorem State.takeRequest_offset (s : State) (r : Request) :
    (s.takeRequest r).offset = s.offset := rfl
@[simp] theorem State.takeRequest_fl (s : State) (r : Request) :
    (s.takeRequest r).fl = s.fl := rfl
@[simp] theorem State.takeRequest_f1 (s : State) (r : Request) :
    (s.takeRequest r).f1 = s.f1 := rfl
@[simp] theorem State.takeRequest_f2 (s : State) (r : Request) :
    (s.takeRequest r).f2 = s.f2 := rfl
@[simp] theorem State.takeRequest_px0 (s : State) (r : Request) :
    (s.takeRequest r).px0 = 0 := rfl
@[simp] theorem State.takeRequest_px1 (s : State) (r : Request) :
    (s.takeRequest r).px1 = s.px1 := rfl
@[simp] theorem State.takeRequest_px10 (s : State) (r : Request) :
    (s.takeRequest r).px10 = r.id.setWidth 16 := rfl
@[simp] theorem State.takeRequest_px11 (s : State) (r : Request) :
    (s.takeRequest r).px11 = s.ip := rfl
@[simp] theorem State.takeRequest_px12 (s : State) (r : Request) :
    (s.takeRequest r).px12 = r.info0 := rfl
@[simp] theorem State.takeRequest_px13 (s : State) (r : Request) :
    (s.takeRequest r).px13 = r.info1 := rfl
@[simp] theorem State.takeRequest_px14 (s : State) (r : Request) :
    (s.takeRequest r).px14 = r.info2 := rfl
@[simp] theorem State.takeRequest_ie (s : State) (r : Request) :
    (s.takeRequest r).ie = false := rfl
@[simp] theorem State.takeRequest_savedFl (s : State) (r : Request) :
    (s.takeRequest r).savedFl = s.fl := rfl
@[simp] theorem State.takeRequest_savedUi (s : State) (r : Request) :
    (s.takeRequest r).savedUi = s.ui := rfl
@[simp] theorem State.takeRequest_activePriv (s : State) (r : Request) :
    (s.takeRequest r).activePriv = 0 := rfl
@[simp] theorem State.takeRequest_pagingActive (s : State) (r : Request) :
    (s.takeRequest r).pagingActive = s.pagingActive := rfl
@[simp] theorem State.takeRequest_ptBase (s : State) (r : Request) :
    (s.takeRequest r).ptBase = s.ptBase := rfl
@[simp] theorem State.takeRequest_ptCache (s : State) (r : Request) :
    (s.takeRequest r).ptCache = s.ptCache := rfl
@[simp] theorem State.takeRequest_run (s : State) (r : Request) :
    (s.takeRequest r).run = .running := rfl
@[simp] theorem State.takeRequest_pending (s : State) (r : Request) :
    (s.takeRequest r).pending = s.pending.erase r := rfl
@[simp] theorem State.takeRequest_mem (s : State) (r : Request) :
    (s.takeRequest r).mem = s.mem := rfl
@[simp] theorem State.takeRequest_replaced (s : State) (r : Request) :
    (s.takeRequest r).replaced = s.replaced := rfl
@[simp] theorem State.takeRequest_params (s : State) (r : Request) :
    (s.takeRequest r).params = s.params := rfl
@[simp] theorem State.takeRequest_arrivals (s : State) (r : Request) :
    (s.takeRequest r).arrivals = s.arrivals := rfl
@[simp] theorem State.takeRequest_portAnswers (s : State) (r : Request) :
    (s.takeRequest r).portAnswers = s.portAnswers := rfl
@[simp] theorem State.takeRequest_portTrace (s : State) (r : Request) :
    (s.takeRequest r).portTrace = s.portTrace := rfl
@[simp] theorem State.takeRequest_fresh (s : State) (r : Request) :
    (s.takeRequest r).fresh = s.fresh := rfl

/-! ### afterPortRead: the fields it leaves -/

@[simp] theorem State.afterPortRead_regs (s : State) (port : Word) :
    (s.afterPortRead port).regs = s.regs := by unfold State.afterPortRead; split <;> rfl
@[simp] theorem State.afterPortRead_ip (s : State) (port : Word) :
    (s.afterPortRead port).ip = s.ip := by unfold State.afterPortRead; split <;> rfl
@[simp] theorem State.afterPortRead_ui (s : State) (port : Word) :
    (s.afterPortRead port).ui = s.ui := by unfold State.afterPortRead; split <;> rfl
@[simp] theorem State.afterPortRead_lr (s : State) (port : Word) :
    (s.afterPortRead port).lr = s.lr := by unfold State.afterPortRead; split <;> rfl
@[simp] theorem State.afterPortRead_sp (s : State) (port : Word) :
    (s.afterPortRead port).sp = s.sp := by unfold State.afterPortRead; split <;> rfl
@[simp] theorem State.afterPortRead_offset (s : State) (port : Word) :
    (s.afterPortRead port).offset = s.offset := by unfold State.afterPortRead; split <;> rfl
@[simp] theorem State.afterPortRead_fl (s : State) (port : Word) :
    (s.afterPortRead port).fl = s.fl := by unfold State.afterPortRead; split <;> rfl
@[simp] theorem State.afterPortRead_f1 (s : State) (port : Word) :
    (s.afterPortRead port).f1 = s.f1 := by unfold State.afterPortRead; split <;> rfl
@[simp] theorem State.afterPortRead_f2 (s : State) (port : Word) :
    (s.afterPortRead port).f2 = s.f2 := by unfold State.afterPortRead; split <;> rfl
@[simp] theorem State.afterPortRead_px0 (s : State) (port : Word) :
    (s.afterPortRead port).px0 = s.px0 := by unfold State.afterPortRead; split <;> rfl
@[simp] theorem State.afterPortRead_px1 (s : State) (port : Word) :
    (s.afterPortRead port).px1 = s.px1 := by unfold State.afterPortRead; split <;> rfl
@[simp] theorem State.afterPortRead_px10 (s : State) (port : Word) :
    (s.afterPortRead port).px10 = s.px10 := by unfold State.afterPortRead; split <;> rfl
@[simp] theorem State.afterPortRead_px11 (s : State) (port : Word) :
    (s.afterPortRead port).px11 = s.px11 := by unfold State.afterPortRead; split <;> rfl
@[simp] theorem State.afterPortRead_px12 (s : State) (port : Word) :
    (s.afterPortRead port).px12 = s.px12 := by unfold State.afterPortRead; split <;> rfl
@[simp] theorem State.afterPortRead_px13 (s : State) (port : Word) :
    (s.afterPortRead port).px13 = s.px13 := by unfold State.afterPortRead; split <;> rfl
@[simp] theorem State.afterPortRead_px14 (s : State) (port : Word) :
    (s.afterPortRead port).px14 = s.px14 := by unfold State.afterPortRead; split <;> rfl
@[simp] theorem State.afterPortRead_ie (s : State) (port : Word) :
    (s.afterPortRead port).ie = s.ie := by unfold State.afterPortRead; split <;> rfl
@[simp] theorem State.afterPortRead_savedFl (s : State) (port : Word) :
    (s.afterPortRead port).savedFl = s.savedFl := by unfold State.afterPortRead; split <;> rfl
@[simp] theorem State.afterPortRead_savedUi (s : State) (port : Word) :
    (s.afterPortRead port).savedUi = s.savedUi := by unfold State.afterPortRead; split <;> rfl
@[simp] theorem State.afterPortRead_activePriv (s : State) (port : Word) :
    (s.afterPortRead port).activePriv = s.activePriv := by unfold State.afterPortRead; split <;> rfl
@[simp] theorem State.afterPortRead_pagingActive (s : State) (port : Word) :
    (s.afterPortRead port).pagingActive = s.pagingActive := by unfold State.afterPortRead; split <;> rfl
@[simp] theorem State.afterPortRead_ptBase (s : State) (port : Word) :
    (s.afterPortRead port).ptBase = s.ptBase := by unfold State.afterPortRead; split <;> rfl
@[simp] theorem State.afterPortRead_ptCache (s : State) (port : Word) :
    (s.afterPortRead port).ptCache = s.ptCache := by unfold State.afterPortRead; split <;> rfl
@[simp] theorem State.afterPortRead_run (s : State) (port : Word) :
    (s.afterPortRead port).run = s.run := by unfold State.afterPortRead; split <;> rfl
@[simp] theorem State.afterPortRead_pending (s : State) (port : Word) :
    (s.afterPortRead port).pending = s.pending := by unfold State.afterPortRead; split <;> rfl
@[simp] theorem State.afterPortRead_mem (s : State) (port : Word) :
    (s.afterPortRead port).mem = s.mem := by unfold State.afterPortRead; split <;> rfl
@[simp] theorem State.afterPortRead_replaced (s : State) (port : Word) :
    (s.afterPortRead port).replaced = s.replaced := by unfold State.afterPortRead; split <;> rfl
@[simp] theorem State.afterPortRead_params (s : State) (port : Word) :
    (s.afterPortRead port).params = s.params := by unfold State.afterPortRead; split <;> rfl
@[simp] theorem State.afterPortRead_arrivals (s : State) (port : Word) :
    (s.afterPortRead port).arrivals = s.arrivals := by unfold State.afterPortRead; split <;> rfl

/-! ### afterFetch: the fields it leaves -/

@[simp] theorem State.afterFetch_regs (s : State) (pa : PAddr) :
    (s.afterFetch pa).regs = s.regs := by unfold State.afterFetch; split <;> [rfl; (split <;> rfl)]
@[simp] theorem State.afterFetch_ip (s : State) (pa : PAddr) :
    (s.afterFetch pa).ip = s.ip := by unfold State.afterFetch; split <;> [rfl; (split <;> rfl)]
@[simp] theorem State.afterFetch_ui (s : State) (pa : PAddr) :
    (s.afterFetch pa).ui = s.ui := by unfold State.afterFetch; split <;> [rfl; (split <;> rfl)]
@[simp] theorem State.afterFetch_lr (s : State) (pa : PAddr) :
    (s.afterFetch pa).lr = s.lr := by unfold State.afterFetch; split <;> [rfl; (split <;> rfl)]
@[simp] theorem State.afterFetch_sp (s : State) (pa : PAddr) :
    (s.afterFetch pa).sp = s.sp := by unfold State.afterFetch; split <;> [rfl; (split <;> rfl)]
@[simp] theorem State.afterFetch_offset (s : State) (pa : PAddr) :
    (s.afterFetch pa).offset = s.offset := by unfold State.afterFetch; split <;> [rfl; (split <;> rfl)]
@[simp] theorem State.afterFetch_fl (s : State) (pa : PAddr) :
    (s.afterFetch pa).fl = s.fl := by unfold State.afterFetch; split <;> [rfl; (split <;> rfl)]
@[simp] theorem State.afterFetch_f1 (s : State) (pa : PAddr) :
    (s.afterFetch pa).f1 = s.f1 := by unfold State.afterFetch; split <;> [rfl; (split <;> rfl)]
@[simp] theorem State.afterFetch_f2 (s : State) (pa : PAddr) :
    (s.afterFetch pa).f2 = s.f2 := by unfold State.afterFetch; split <;> [rfl; (split <;> rfl)]
@[simp] theorem State.afterFetch_px0 (s : State) (pa : PAddr) :
    (s.afterFetch pa).px0 = s.px0 := by unfold State.afterFetch; split <;> [rfl; (split <;> rfl)]
@[simp] theorem State.afterFetch_px1 (s : State) (pa : PAddr) :
    (s.afterFetch pa).px1 = s.px1 := by unfold State.afterFetch; split <;> [rfl; (split <;> rfl)]
@[simp] theorem State.afterFetch_px10 (s : State) (pa : PAddr) :
    (s.afterFetch pa).px10 = s.px10 := by unfold State.afterFetch; split <;> [rfl; (split <;> rfl)]
@[simp] theorem State.afterFetch_px11 (s : State) (pa : PAddr) :
    (s.afterFetch pa).px11 = s.px11 := by unfold State.afterFetch; split <;> [rfl; (split <;> rfl)]
@[simp] theorem State.afterFetch_px12 (s : State) (pa : PAddr) :
    (s.afterFetch pa).px12 = s.px12 := by unfold State.afterFetch; split <;> [rfl; (split <;> rfl)]
@[simp] theorem State.afterFetch_px13 (s : State) (pa : PAddr) :
    (s.afterFetch pa).px13 = s.px13 := by unfold State.afterFetch; split <;> [rfl; (split <;> rfl)]
@[simp] theorem State.afterFetch_px14 (s : State) (pa : PAddr) :
    (s.afterFetch pa).px14 = s.px14 := by unfold State.afterFetch; split <;> [rfl; (split <;> rfl)]
@[simp] theorem State.afterFetch_ie (s : State) (pa : PAddr) :
    (s.afterFetch pa).ie = s.ie := by unfold State.afterFetch; split <;> [rfl; (split <;> rfl)]
@[simp] theorem State.afterFetch_savedFl (s : State) (pa : PAddr) :
    (s.afterFetch pa).savedFl = s.savedFl := by unfold State.afterFetch; split <;> [rfl; (split <;> rfl)]
@[simp] theorem State.afterFetch_savedUi (s : State) (pa : PAddr) :
    (s.afterFetch pa).savedUi = s.savedUi := by unfold State.afterFetch; split <;> [rfl; (split <;> rfl)]
@[simp] theorem State.afterFetch_activePriv (s : State) (pa : PAddr) :
    (s.afterFetch pa).activePriv = s.activePriv := by unfold State.afterFetch; split <;> [rfl; (split <;> rfl)]
@[simp] theorem State.afterFetch_pagingActive (s : State) (pa : PAddr) :
    (s.afterFetch pa).pagingActive = s.pagingActive := by unfold State.afterFetch; split <;> [rfl; (split <;> rfl)]
@[simp] theorem State.afterFetch_ptBase (s : State) (pa : PAddr) :
    (s.afterFetch pa).ptBase = s.ptBase := by unfold State.afterFetch; split <;> [rfl; (split <;> rfl)]
@[simp] theorem State.afterFetch_ptCache (s : State) (pa : PAddr) :
    (s.afterFetch pa).ptCache = s.ptCache := by unfold State.afterFetch; split <;> [rfl; (split <;> rfl)]
@[simp] theorem State.afterFetch_run (s : State) (pa : PAddr) :
    (s.afterFetch pa).run = s.run := by unfold State.afterFetch; split <;> [rfl; (split <;> rfl)]
@[simp] theorem State.afterFetch_pending (s : State) (pa : PAddr) :
    (s.afterFetch pa).pending = s.pending := by unfold State.afterFetch; split <;> [rfl; (split <;> rfl)]
@[simp] theorem State.afterFetch_mem (s : State) (pa : PAddr) :
    (s.afterFetch pa).mem = s.mem := by unfold State.afterFetch; split <;> [rfl; (split <;> rfl)]
@[simp] theorem State.afterFetch_replaced (s : State) (pa : PAddr) :
    (s.afterFetch pa).replaced = s.replaced := by unfold State.afterFetch; split <;> [rfl; (split <;> rfl)]
@[simp] theorem State.afterFetch_params (s : State) (pa : PAddr) :
    (s.afterFetch pa).params = s.params := by unfold State.afterFetch; split <;> [rfl; (split <;> rfl)]
@[simp] theorem State.afterFetch_arrivals (s : State) (pa : PAddr) :
    (s.afterFetch pa).arrivals = s.arrivals := by unfold State.afterFetch; split <;> [rfl; (split <;> rfl)]
@[simp] theorem State.afterFetch_portAnswers (s : State) (pa : PAddr) :
    (s.afterFetch pa).portAnswers = s.portAnswers := by unfold State.afterFetch; split <;> [rfl; (split <;> rfl)]
@[simp] theorem State.afterFetch_portTrace (s : State) (pa : PAddr) :
    (s.afterFetch pa).portTrace = s.portTrace := by unfold State.afterFetch; split <;> [rfl; (split <;> rfl)]

/-! ### receive: the fields it leaves -/

@[simp] theorem State.receive_regs (s : State) :
    (s.receive).regs = s.regs := by unfold State.receive; split <;> rfl
@[simp] theorem State.receive_ip (s : State) :
    (s.receive).ip = s.ip := by unfold State.receive; split <;> rfl
@[simp] theorem State.receive_ui (s : State) :
    (s.receive).ui = s.ui := by unfold State.receive; split <;> rfl
@[simp] theorem State.receive_lr (s : State) :
    (s.receive).lr = s.lr := by unfold State.receive; split <;> rfl
@[simp] theorem State.receive_sp (s : State) :
    (s.receive).sp = s.sp := by unfold State.receive; split <;> rfl
@[simp] theorem State.receive_offset (s : State) :
    (s.receive).offset = s.offset := by unfold State.receive; split <;> rfl
@[simp] theorem State.receive_fl (s : State) :
    (s.receive).fl = s.fl := by unfold State.receive; split <;> rfl
@[simp] theorem State.receive_f1 (s : State) :
    (s.receive).f1 = s.f1 := by unfold State.receive; split <;> rfl
@[simp] theorem State.receive_f2 (s : State) :
    (s.receive).f2 = s.f2 := by unfold State.receive; split <;> rfl
@[simp] theorem State.receive_px0 (s : State) :
    (s.receive).px0 = s.px0 := by unfold State.receive; split <;> rfl
@[simp] theorem State.receive_px1 (s : State) :
    (s.receive).px1 = s.px1 := by unfold State.receive; split <;> rfl
@[simp] theorem State.receive_px10 (s : State) :
    (s.receive).px10 = s.px10 := by unfold State.receive; split <;> rfl
@[simp] theorem State.receive_px11 (s : State) :
    (s.receive).px11 = s.px11 := by unfold State.receive; split <;> rfl
@[simp] theorem State.receive_px12 (s : State) :
    (s.receive).px12 = s.px12 := by unfold State.receive; split <;> rfl
@[simp] theorem State.receive_px13 (s : State) :
    (s.receive).px13 = s.px13 := by unfold State.receive; split <;> rfl
@[simp] theorem State.receive_px14 (s : State) :
    (s.receive).px14 = s.px14 := by unfold State.receive; split <;> rfl
@[simp] theorem State.receive_ie (s : State) :
    (s.receive).ie = s.ie := by unfold State.receive; split <;> rfl
@[simp] theorem State.receive_savedFl (s : State) :
    (s.receive).savedFl = s.savedFl := by unfold State.receive; split <;> rfl
@[simp] theorem State.receive_savedUi (s : State) :
    (s.receive).savedUi = s.savedUi := by unfold State.receive; split <;> rfl
@[simp] theorem State.receive_activePriv (s : State) :
    (s.receive).activePriv = s.activePriv := by unfold State.receive; split <;> rfl
@[simp] theorem State.receive_pagingActive (s : State) :
    (s.receive).pagingActive = s.pagingActive := by unfold State.receive; split <;> rfl
@[simp] theorem State.receive_ptBase (s : State) :
    (s.receive).ptBase = s.ptBase := by unfold State.receive; split <;> rfl
@[simp] theorem State.receive_ptCache (s : State) :
    (s.receive).ptCache = s.ptCache := by unfold State.receive; split <;> rfl
@[simp] theorem State.receive_run (s : State) :
    (s.receive).run = s.run := by unfold State.receive; split <;> rfl
@[simp] theorem State.receive_mem (s : State) :
    (s.receive).mem = s.mem := by unfold State.receive; split <;> rfl
@[simp] theorem State.receive_replaced (s : State) :
    (s.receive).replaced = s.replaced := by unfold State.receive; split <;> rfl
@[simp] theorem State.receive_params (s : State) :
    (s.receive).params = s.params := by unfold State.receive; split <;> rfl
@[simp] theorem State.receive_portAnswers (s : State) :
    (s.receive).portAnswers = s.portAnswers := by unfold State.receive; split <;> rfl
@[simp] theorem State.receive_portTrace (s : State) :
    (s.receive).portTrace = s.portTrace := by unfold State.receive; split <;> rfl
@[simp] theorem State.receive_fresh (s : State) :
    (s.receive).fresh = s.fresh := by unfold State.receive; split <;> rfl

@[simp] theorem State.afterPortRead_portTrace (s : State) (port : Word) :
    (s.afterPortRead port).portTrace = s.portTrace ++ [PortEvent.read port] := by
  unfold State.afterPortRead; split <;> rfl

end Sys2Proof.Machine
end

