-- ==== Sys2Proof/Laws/Ops.lean ====
section
/-! SUPPORT. One lemma per shared operation: everything it can do when it answers a next state. Later
proofs cite these and unfold no operation. -/

namespace Sys2Proof.Machine

/-! ### Ends and checks -/

theorem State.finish_next {s t : State} : s.finish = .next t ↔ t = { s with ui := 0 } := by
  simp [State.finish, eq_comm]

theorem State.raise_next {s t : State} {id : BitVec 8} {i0 i1 i2 : Word} :
    s.raise id i0 i1 i2 = .next t ↔ s.ie = true ∧ t = s.enter ⟨id, i0, i1, i2⟩ := by
  unfold State.raise
  split_ifs with h <;> simp [h, eq_comm (a := t)]

theorem State.raise_entered {s t : State} {id : BitVec 8} {i0 i1 i2 : Word}
    (h : s.raise id i0 i1 i2 = .next t) : EnteredFrom s t := ⟨_, (State.raise_next.1 h).2⟩

theorem State.needs_next {s t : State} {e : Extension} {w : Word} {k : Result}
    (h : s.needs e w k = .next t) :
    (s.has e = true ∧ k = .next t) ∨ (s.has e = false ∧ s.raise 6 w 0 0 = .next t) := by
  unfold State.needs at h; split at h <;> simp_all

theorem State.privileged_next {s t : State} {w : Word} {k : Result}
    (h : s.privileged w k = .next t) :
    (s.activePriv = 0 ∧ k = .next t) ∨ (s.activePriv ≠ 0 ∧ s.raise 2 w 0 0 = .next t) := by
  unfold State.privileged at h; split at h <;> simp_all

/-! ### Translation and access -/

theorem State.translate_unpaged {s : State} {kind : AccessKind} {va : Word}
    (h : s.pagingActive = false) : s.translate kind va = .ok (va.setWidth 24) := by
  simp [State.translate, h]

/-- What a translation that succeeds has found. -/
theorem State.translate_ok {s : State} {kind : AccessKind} {va : Word} {pa : PAddr}
    (h : s.translate kind va = .ok pa) :
    (s.pagingActive = false ∧ pa = va.setWidth 24) ∨
    (s.pagingActive = true ∧ (s.pageEntry va).getLsbD 15 = true ∧
      (s.pageEntry va).getLsbD kind.entryBit = true ∧ pa = frameAddr (s.pageEntry va) va ∧
      pa.toNat < s.params.physWords) := by
  unfold State.translate at h
  split_ifs at h with h1 h2 h3 h4 <;> simp_all

/-- What a translation that raises has found. -/
theorem State.translate_interrupt {s : State} {kind : AccessKind} {va : Word} {id : BitVec 8}
    {i0 i1 : Word} (h : s.translate kind va = .interrupt id i0 i1) :
    s.pagingActive = true ∧ i0 = va ∧
    (((s.pageEntry va).getLsbD 15 = false ∧ id = 1 ∧ i1 = 0) ∨
     ((s.pageEntry va).getLsbD 15 = true ∧ (s.pageEntry va).getLsbD kind.entryBit = false ∧
      id = 3 ∧ i1 = kind.code)) := by
  unfold State.translate at h
  split_ifs at h with h1 h2 h3 h4 <;> simp_all

theorem State.onAccess_next {s t : State} {kind : AccessKind} {va : Word} {k : PAddr → Result}
    (h : s.onAccess kind va k = .next t) :
    (∃ pa, s.translate kind va = .ok pa ∧ k pa = .next t) ∨
    (∃ id i0 i1, s.translate kind va = .interrupt id i0 i1 ∧ s.raise id i0 i1 0 = .next t) := by
  unfold State.onAccess at h
  split at h
  · exact .inl ⟨_, ‹_›, h⟩
  · exact .inr ⟨_, _, _, ‹_›, h⟩
  · cases h

theorem State.onAccess_ok {s : State} {kind : AccessKind} {va : Word} {pa : PAddr}
    (k : PAddr → Result) (h : s.translate kind va = .ok pa) : s.onAccess kind va k = k pa := by
  simp [State.onAccess, h]

/-! ### Writing registers -/

theorem State.writeReg_next {s t : State} {d : Reg} {r : Word} :
    s.writeReg d r = .next t ↔ t = { s.setReg d r with ui := 0 } := State.finish_next

theorem State.writeSZ_next {s t : State} {d : Reg} {r : Word} :
    s.writeSZ d r = .next t ↔ t = { (s.setReg d r).setSZ r with ui := 0 } := State.finish_next

theorem State.testSZ_next {s t : State} {r : Word} :
    s.testSZ r = .next t ↔ t = { s.setSZ r with ui := 0 } := State.finish_next

theorem State.writeFlags_next {s t : State} {d : Reg} {r : Word} {fl : FlagBits} :
    s.writeFlags d r fl = .next t ↔ t = { s.setReg d r with fl := fl, ui := 0 } :=
  State.finish_next

/-! ### Loads and stores -/

theorem State.loadThen_next {s t : State} {va : Word} {k : Word → Result}
    (h : s.loadThen va k = .next t) :
    (∃ pa, s.translate .read va = .ok pa ∧ k (s.mem.readWord pa) = .next t) ∨ EnteredFrom s t :=
  (State.onAccess_next h).imp id fun ⟨_, _, _, _, hr⟩ => State.raise_entered hr

theorem State.storeThen_next {s t : State} {va v : Word} {k : State → Result}
    (h : s.storeThen va v k = .next t) :
    (∃ pa, s.translate .write va = .ok pa ∧ k (s.storeWord pa v) = .next t) ∨ EnteredFrom s t :=
  (State.onAccess_next h).imp id fun ⟨_, _, _, _, hr⟩ => State.raise_entered hr

/-! ### Privileged and external registers -/

/-- An entry whose word physical memory has is that word; of another nothing can be said. -/
theorem State.tableEntry_present {s : State} {base : Word} {n : Nat}
    (h : (tableEntryAddr base n).toNat < s.params.physWords) :
    s.tableEntry base n = s.mem.readWord (tableEntryAddr base n) := if_pos h

/-- Entry `n` of the table is the entry of page `n`. -/
theorem State.pageTable_getElem (s : State) (base : Word) (n : Fin 16) :
    (s.pageTable base)[n] = s.tableEntry base n := by
  fin_cases n <;> rfl

theorem State.updateState_next {s t : State} (h : s.updateState = .next t) :
    (s.px0 = 0x0000 ∨ s.px0 = 0x0003) ∧
    (s.tableEntry s.px1 0).getLsbD 15 = true ∧
    t = { s.refreshed with ui := 0 } := by
  unfold State.updateState at h
  split_ifs at h with h1 h2
  exact ⟨h1, h2, State.finish_next.1 h⟩

theorem State.pxWrite_next {s t : State} {num : BitVec 5} {v : Word}
    (h : s.pxWrite num v = .next t) :
    (num.toNat = 0 ∧ t = { s with px0 := v, ui := 0 }) ∨
    (num.toNat = 1 ∧ t = { s with px1 := v, ui := 0 }) ∨
    (num.toNat = 10 ∧ t = { s with px10 := v, ui := 0 }) ∨
    (num.toNat = 11 ∧ t = { s with px11 := v, ui := 0 }) ∨
    (num.toNat = 12 ∧ t = { s with px12 := v, ui := 0 }) ∨
    (num.toNat = 13 ∧ t = { s with px13 := v, ui := 0 }) ∨
    (num.toNat = 14 ∧ t = { s with px14 := v, ui := 0 }) ∨
    (num.toNat = 31 ∧ s.updateState = .next t) := by
  unfold State.pxWrite at h
  split at h <;> simp_all [State.finish_next]

theorem State.xregCheck_next {s t : State} {e : Reg} {w : Word} {k : Result}
    (h : s.xregCheck e w k = .next t) :
    ((e = 4 → s.has .relative = true) ∧ k = .next t) ∨ EnteredFrom s t := by
  unfold State.xregCheck at h
  split_ifs at h with he
  · rcases State.needs_next h with ⟨h1, h2⟩ | ⟨_, h2⟩
    · exact .inl ⟨fun _ => h1, h2⟩
    · exact .inr (State.raise_entered h2)
  · exact .inl ⟨fun e' => absurd e' he, h⟩

theorem State.writeF1_next {s t : State} {v : Word} (h : s.writeF1 v = .next t) :
    v &&& 0xFFF8#16 = 0 ∧ (v.getLsbD 0 = true → s.params.cf.getLsbD 8 = true) ∧
    t = { s with f1 := v, ui := 0 } := by
  unfold State.writeF1 at h
  split_ifs at h with h1 h2
  refine ⟨by simpa using h1, fun h0 => ?_, State.finish_next.1 h⟩
  simpa [h0] using h2

theorem State.writeF2_next {s t : State} {v : Word} (h : s.writeF2 v = .next t) :
    v &&& 0xFFFE#16 = 0 ∧ t = { s with f2 := v, ui := 0 } := by
  unfold State.writeF2 at h
  split_ifs at h with h1
  exact ⟨by simpa using h1, State.finish_next.1 h⟩

/-- Everything XWR can do, past its extension check. -/
theorem State.xregWrite_next {s t : State} {e : Reg} {v w : Word}
    (h : s.xregWrite e v w = .next t) :
    EnteredFrom s t ∨
    (e.toNat = 0 ∧ t = { s with ip := v, ui := 0 }) ∨
    (e.toNat = 1 ∧ t = { s with ui := v }) ∨
    (e.toNat = 2 ∧ t = { s with lr := v, ui := 0 }) ∨
    (e.toNat = 3 ∧ t = { s with sp := v, ui := 0 }) ∨
    (e.toNat = 4 ∧ s.has .relative = true ∧ t = { s with offset := v, ui := 0 }) ∨
    (e.toNat = 5 ∧ t = { s with fl := v.setWidth 4, ui := 0 }) ∨
    (e.toNat = 6 ∧ s.writeF1 v = .next t) ∨
    (e.toNat = 7 ∧ s.writeF2 v = .next t) := by
  rcases State.xregCheck_next h with ⟨he, hk⟩ | hE
  · have : e.toNat < 8 := e.isLt
    split at hk <;>
      simp_all [State.finish_next, eq_comm (b := t)]
    · exact .inr <| he (BitVec.eq_of_toNat_eq (by simpa using ‹e.toNat = 4›))
    · omega
  · exact .inl hE

/-! ### Ports -/

theorem State.portRead_next {s t : State} {d : Reg} {port : Word} :
    s.portRead d port = .next t ↔
      t = { (s.afterPortRead port).setReg d s.portAnswer with ui := 0 } := State.finish_next

theorem State.portWrite_next {s t : State} {port v : Word} :
    s.portWrite port v = .next t ↔
      t = { s with portTrace := s.portTrace ++ [PortEvent.write port v], ui := 0 } :=
  State.finish_next

/-! ### The step -/

/-- A request that is delivered is pending, with IE = 1, and none pending has a lower id. -/
theorem lowestRequest_spec {rs : List Request} {r : Request} (h : lowestRequest rs = some r) :
    r ∈ rs ∧ ∀ r' ∈ rs, r.id.toNat ≤ r'.id.toNat := by
  induction rs generalizing r with
  | nil => simp [lowestRequest] at h
  | cons a rest ih =>
    unfold lowestRequest at h
    split at h
    · rename_i hn
      have hrest : rest = [] := by
        cases rest with
        | nil => rfl
        | cons b rest' =>
          unfold lowestRequest at hn
          split at hn
          · simp at hn
          · split at hn <;> simp at hn
      simp_all
    · rename_i r' hr'
      obtain ⟨hmem, hle⟩ := ih hr'
      split at h <;> cases h
      · rename_i hlt
        refine ⟨List.mem_cons_of_mem _ hmem, fun x hx => ?_⟩
        exact (List.mem_cons.1 hx).elim (fun e => e ▸ Nat.le_of_lt hlt) (hle x)
      · rename_i hge
        refine ⟨List.mem_cons_self, fun x hx => ?_⟩
        exact (List.mem_cons.1 hx).elim (fun e => e ▸ Nat.le_refl _)
          fun hx => (Nat.le_of_not_lt hge).trans (hle x hx)

/-- Everything a step can do. -/
theorem step_next {s t : State} (h : step s = .next t) :
    (s.run = .dead ∧ t = s) ∨
    (∃ r, s.run ≠ .dead ∧ s.receive.deliverable = some r ∧ t = s.receive.takeRequest r) ∨
    (s.run = .waiting ∧ s.receive.deliverable = none ∧ t = s.receive) ∨
    (s.run = .running ∧ s.receive.deliverable = none ∧
      s.receive.fetchAndRun exec = .next t) := by
  unfold step cycle at h
  split at h
  · exact .inl ⟨‹_›, by simpa [eq_comm] using h⟩
  · split at h
    · exact .inr (.inl ⟨_, by simp_all, ‹_›, by simpa [eq_comm] using h⟩)
    · exact .inr (.inr (.inr ⟨‹_›, ‹_›, h⟩))
  · split at h
    · exact .inr (.inl ⟨_, by simp_all, ‹_›, by simpa [eq_comm] using h⟩)
    · exact .inr (.inr (.inl ⟨‹_›, ‹_›, by simpa [eq_comm] using h⟩))

/-- Everything fetching and running can do: the decoded instruction runs, or an interrupt is
entered. -/
theorem State.fetchAndRun_next {ex : Instr → State → Result} {s t : State}
    (h : s.fetchAndRun ex = .next t) :
    (∃ pa i, s.translate .execute s.ip = .ok pa ∧ decode (s.fetchedWord pa) = .ok i ∧
      ex i (s.advanceIp.afterFetch pa) = .next t) ∨
    EnteredFrom s.advanceIp t ∨
    (∃ pa, s.translate .execute s.ip = .ok pa ∧ EnteredFrom (s.advanceIp.afterFetch pa) t) := by
  rcases State.onAccess_next h with ⟨pa, hpa, hk⟩ | ⟨_, _, _, _, hr⟩
  · unfold State.runWord at hk
    split at hk
    · exact .inl ⟨pa, _, hpa, ‹_›, hk⟩
    · exact .inr (.inr ⟨pa, hpa, State.raise_entered hk⟩)
  · exact .inr (.inl (State.raise_entered hr))

/-- A fetch changes nothing but the counter of free values. -/
theorem State.afterFetch_eq (s : State) (pa : PAddr) :
    ∃ f, s.afterFetch pa = { s with fresh := f } := by
  unfold State.afterFetch
  split
  · exact ⟨_, rfl⟩
  · split <;> exact ⟨_, rfl⟩

/-- Receiving requests changes nothing but the schedule and `pending`. -/
theorem State.receive_eq (s : State) :
    ∃ a p, s.receive = { s with arrivals := a, pending := p } := by
  unfold State.receive
  split <;> exact ⟨_, _, rfl⟩

end Sys2Proof.Machine
end

