-- ==== Sys2Proof/Laws/PerInstr.lean ====
section
/-! SUPPORT. Families of facts about every instruction as syntax, one lemma per constructor. -/

namespace Sys2Proof.Laws

/-- The encoder keeps to the opcode table: the instruction's word carries the fixed bits of its row
of spec/opcode_table.json (spec/30_encoding.md R76). -/
def EncodingRow.Statement (i : Instr) : Prop := encode i &&& (tableRow i).mask = (tableRow i).fixed

theorem EncodingRow.int (imm : BitVec 8) : EncodingRow.Statement (.int imm) :=
  wordL_row ..

theorem EncodingRow.irt (low : BitVec 8) : EncodingRow.Statement (.irt low) :=
  wordL_row ..

theorem EncodingRow.hlt (low : BitVec 8) : EncodingRow.Statement (.hlt low) :=
  wordL_row ..

theorem EncodingRow.hcf (low : BitVec 8) : EncodingRow.Statement (.hcf low) :=
  wordL_row ..

theorem EncodingRow.pxr (d : Reg) (num : BitVec 5) : EncodingRow.Statement (.pxr d num) :=
  wordLReg_row ..

theorem EncodingRow.pxw (num : BitVec 5) (src : Reg) : EncodingRow.Statement (.pxw num src) :=
  wordLReg_row ..

theorem EncodingRow.calImm (imm : BitVec 11) : EncodingRow.Statement (.calImm imm) :=
  wordLImm_row ..

theorem EncodingRow.jmpImm (imm : BitVec 11) : EncodingRow.Statement (.jmpImm imm) :=
  wordLImm_row ..

theorem EncodingRow.jcu (leg : BitVec 3) (imm : BitVec 8) : EncodingRow.Statement (.jcu leg imm) :=
  wordJcc_row ..

theorem EncodingRow.jcs (leg : BitVec 3) (imm : BitVec 8) : EncodingRow.Statement (.jcs leg imm) :=
  wordJcc_row ..

theorem EncodingRow.prdReg (d : Reg) (src : Reg) : EncodingRow.Statement (.prdReg d src) :=
  wordRegReg_row ..

theorem EncodingRow.prdImm (d : Reg) (imm : BitVec 8) : EncodingRow.Statement (.prdImm d imm) :=
  wordRegImm_row ..

theorem EncodingRow.pwrReg (d : Reg) (src : Reg) : EncodingRow.Statement (.pwrReg d src) :=
  wordRegReg_row ..

theorem EncodingRow.pwrImm (imm : BitVec 8) (src : Reg) : EncodingRow.Statement (.pwrImm imm src) :=
  wordRegImm_row ..

theorem EncodingRow.xrd (d : Reg) (e : Reg) : EncodingRow.Statement (.xrd d e) :=
  wordRegReg_row ..

theorem EncodingRow.xwrReg (e : Reg) (src : Reg) : EncodingRow.Statement (.xwrReg e src) :=
  wordRegReg_row ..

theorem EncodingRow.xwrImm (e : Reg) (imm : BitVec 8) : EncodingRow.Statement (.xwrImm e imm) :=
  wordRegImm_row ..

theorem EncodingRow.mrdReg (d : Reg) (src : Reg) : EncodingRow.Statement (.mrdReg d src) :=
  wordRegReg_row ..

theorem EncodingRow.mrdImm (d : Reg) (imm : BitVec 8) : EncodingRow.Statement (.mrdImm d imm) :=
  wordRegImm_row ..

theorem EncodingRow.mwrReg (d : Reg) (src : Reg) : EncodingRow.Statement (.mwrReg d src) :=
  wordRegReg_row ..

theorem EncodingRow.mwrImm (imm : BitVec 8) (src : Reg) : EncodingRow.Statement (.mwrImm imm src) :=
  wordRegImm_row ..

theorem EncodingRow.mroReg (d : Reg) (src : Reg) : EncodingRow.Statement (.mroReg d src) :=
  wordRegReg_row ..

theorem EncodingRow.mroImm (d : Reg) (imm : BitVec 8) : EncodingRow.Statement (.mroImm d imm) :=
  wordRegImm_row ..

theorem EncodingRow.mwoReg (d : Reg) (src : Reg) : EncodingRow.Statement (.mwoReg d src) :=
  wordRegReg_row ..

theorem EncodingRow.mwoImm (imm : BitVec 8) (src : Reg) : EncodingRow.Statement (.mwoImm imm src) :=
  wordRegImm_row ..

theorem EncodingRow.mulReg (d : Reg) (src : Reg) : EncodingRow.Statement (.mulReg d src) :=
  wordRegReg_row ..

theorem EncodingRow.mulImm (d : Reg) (imm : BitVec 8) : EncodingRow.Statement (.mulImm d imm) :=
  wordRegImm_row ..

theorem EncodingRow.cmpReg (d : Reg) (src : Reg) : EncodingRow.Statement (.cmpReg d src) :=
  wordRegReg_row ..

theorem EncodingRow.cmpImm (d : Reg) (imm : BitVec 8) : EncodingRow.Statement (.cmpImm d imm) :=
  wordRegImm_row ..

theorem EncodingRow.divReg (d : Reg) (src : Reg) : EncodingRow.Statement (.divReg d src) :=
  wordRegReg_row ..

theorem EncodingRow.divImm (d : Reg) (imm : BitVec 8) : EncodingRow.Statement (.divImm d imm) :=
  wordRegImm_row ..

theorem EncodingRow.tstReg (d : Reg) (src : Reg) : EncodingRow.Statement (.tstReg d src) :=
  wordRegReg_row ..

theorem EncodingRow.tstImm (d : Reg) (imm : BitVec 8) : EncodingRow.Statement (.tstImm d imm) :=
  wordRegImm_row ..

theorem EncodingRow.movReg (d : Reg) (src : Reg) : EncodingRow.Statement (.movReg d src) :=
  wordRegReg_row ..

theorem EncodingRow.movImm (d : Reg) (imm : BitVec 8) : EncodingRow.Statement (.movImm d imm) :=
  wordRegImm_row ..

theorem EncodingRow.pop (d : Reg) (low : BitVec 5) : EncodingRow.Statement (.pop d low) :=
  wordLReg_row ..

theorem EncodingRow.psh (src : Reg) (low : BitVec 5) : EncodingRow.Statement (.psh src low) :=
  wordLReg_row ..

theorem EncodingRow.calReg (src : Reg) (low : BitVec 5) : EncodingRow.Statement (.calReg src low) :=
  wordLReg_row ..

theorem EncodingRow.jmpReg (src : Reg) (low : BitVec 5) : EncodingRow.Statement (.jmpReg src low) :=
  wordLReg_row ..

theorem EncodingRow.ret (socz : FlagBits) : EncodingRow.Statement (.ret socz) :=
  wordRet_row ..

theorem EncodingRow.nop (low : BitVec 8) : EncodingRow.Statement (.nop low) :=
  wordL_row ..

theorem EncodingRow.mcu (leg : BitVec 3) (d : Reg) (src : Reg) : EncodingRow.Statement (.mcu leg d src) :=
  wordMcc_row ..

theorem EncodingRow.mcs (leg : BitVec 3) (d : Reg) (src : Reg) : EncodingRow.Statement (.mcs leg d src) :=
  wordMcc_row ..

theorem EncodingRow.addReg (d : Reg) (src : Reg) : EncodingRow.Statement (.addReg d src) :=
  wordRegReg_row ..

theorem EncodingRow.addImm (d : Reg) (imm : BitVec 8) : EncodingRow.Statement (.addImm d imm) :=
  wordRegImm_row ..

theorem EncodingRow.subReg (d : Reg) (src : Reg) : EncodingRow.Statement (.subReg d src) :=
  wordRegReg_row ..

theorem EncodingRow.subImm (d : Reg) (imm : BitVec 8) : EncodingRow.Statement (.subImm d imm) :=
  wordRegImm_row ..

theorem EncodingRow.notReg (d : Reg) (src : Reg) : EncodingRow.Statement (.notReg d src) :=
  wordRegReg_row ..

theorem EncodingRow.notImm (d : Reg) (imm : BitVec 8) : EncodingRow.Statement (.notImm d imm) :=
  wordRegImm_row ..

theorem EncodingRow.andReg (d : Reg) (src : Reg) : EncodingRow.Statement (.andReg d src) :=
  wordRegReg_row ..

theorem EncodingRow.andImm (d : Reg) (imm : BitVec 8) : EncodingRow.Statement (.andImm d imm) :=
  wordRegImm_row ..

theorem EncodingRow.orrReg (d : Reg) (src : Reg) : EncodingRow.Statement (.orrReg d src) :=
  wordRegReg_row ..

theorem EncodingRow.orrImm (d : Reg) (imm : BitVec 8) : EncodingRow.Statement (.orrImm d imm) :=
  wordRegImm_row ..

theorem EncodingRow.xorReg (d : Reg) (src : Reg) : EncodingRow.Statement (.xorReg d src) :=
  wordRegReg_row ..

theorem EncodingRow.xorImm (d : Reg) (imm : BitVec 8) : EncodingRow.Statement (.xorImm d imm) :=
  wordRegImm_row ..

theorem EncodingRow.shlReg (d : Reg) (src : Reg) : EncodingRow.Statement (.shlReg d src) :=
  wordRegReg_row ..

theorem EncodingRow.shlImm (d : Reg) (imm : BitVec 8) : EncodingRow.Statement (.shlImm d imm) :=
  wordRegImm_row ..

theorem EncodingRow.shrReg (d : Reg) (src : Reg) : EncodingRow.Statement (.shrReg d src) :=
  wordRegReg_row ..

theorem EncodingRow.shrImm (d : Reg) (imm : BitVec 8) : EncodingRow.Statement (.shrImm d imm) :=
  wordRegImm_row ..

theorem EncodingRow.programmable0 (low : BitVec 8) : EncodingRow.Statement (.programmable0 low) :=
  wordL_row ..

theorem EncodingRow.programmable1 (low : BitVec 8) : EncodingRow.Statement (.programmable1 low) :=
  wordL_row ..

theorem EncodingRow.programmable2 (low : BitVec 8) : EncodingRow.Statement (.programmable2 low) :=
  wordL_row ..

theorem EncodingRow.programmable3 (low : BitVec 8) : EncodingRow.Statement (.programmable3 low) :=
  wordL_row ..

theorem EncodingRow.programmable4 (low : BitVec 8) : EncodingRow.Statement (.programmable4 low) :=
  wordL_row ..

theorem EncodingRow.programmable5 (low : BitVec 8) : EncodingRow.Statement (.programmable5 low) :=
  wordL_row ..

theorem EncodingRow.programmable6 (low : BitVec 8) : EncodingRow.Statement (.programmable6 low) :=
  wordL_row ..

theorem EncodingRow.programmable7 (low : BitVec 8) : EncodingRow.Statement (.programmable7 low) :=
  wordL_row ..

theorem EncodingRow.programmable8 (low : BitVec 8) : EncodingRow.Statement (.programmable8 low) :=
  wordL_row ..

theorem EncodingRow.programmable9 (low : BitVec 8) : EncodingRow.Statement (.programmable9 low) :=
  wordL_row ..

theorem EncodingRow.programmableA (low : BitVec 8) : EncodingRow.Statement (.programmableA low) :=
  wordL_row ..

theorem EncodingRow.programmableB (low : BitVec 8) : EncodingRow.Statement (.programmableB low) :=
  wordL_row ..

theorem EncodingRow.programmableC (low : BitVec 8) : EncodingRow.Statement (.programmableC low) :=
  wordL_row ..

theorem EncodingRow.programmableD (low : BitVec 8) : EncodingRow.Statement (.programmableD low) :=
  wordL_row ..

theorem EncodingRow.programmableE (low : BitVec 8) : EncodingRow.Statement (.programmableE low) :=
  wordL_row ..

theorem EncodingRow.programmableF (low : BitVec 8) : EncodingRow.Statement (.programmableF low) :=
  wordL_row ..

end Sys2Proof.Laws
end

