-- ==== Sys2Proof/Tests/Slice0.lean ====
section
/-! SUPPORT. Tests. Every expected value is the spec's: the words of spec/95_test_vectors.md part 2,
the vectors of its parts 3 to 9, and the examples of the instructions' own rules. The witnesses at the
end show that the hypotheses of the statements in Certificates/Slice0/Obligations.lean can be met. -/

namespace Sys2Proof.Tests

open Sys2Proof Sys2Proof.Machine

/-! ### Decoding: a word of every constructor, written out from the spec's encoding of it -/

theorem test_decode_system :
    decode 0x0880 = .ok (.int 0x40) ∧ decode 0x0801 = .ok (.int 0x80) ∧
    decode 0x0900 = .ok (.irt 0) ∧ decode 0x0A00 = .ok (.hlt 0) ∧ decode 0x0B00 = .ok (.hcf 0) ∧
    decode 0x0E74 = .ok (.pxr 3 10) ∧ decode 0x0E21 = .ok (.pxr 1 16) ∧
    decode 0x0F56 = .ok (.pxw 11 2) ∧ decode 0x0F1F = .ok (.pxw 31 0) := by decide

theorem test_decode_control :
    decode 0x100A = .ok (.calImm 5) ∧ decode 0x1801 = .ok (.jmpImm 0x400) ∧
    decode 0x19FE = .ok (.jmpImm 0xFF) ∧ decode 0x27C3 = .ok (.jcu 0b001 0xFC) ∧
    decode 0x2FDD = .ok (.jcs 0b110 0xFD) ∧ decode 0xAA40 = .ok (.calReg 2 0) ∧
    decode 0xABC0 = .ok (.jmpReg 6 0) ∧ decode 0xACA0 = .ok (.ret 0b1010) ∧
    decode 0xAF00 = .ok (.nop 0) := by decide

theorem test_decode_ports_xregs :
    decode 0x0228 = .ok (.prdReg 1 2) ∧ decode 0x402A = .ok (.prdImm 1 5) ∧
    decode 0x0229 = .ok (.pwrReg 1 2) ∧ decode 0x484A = .ok (.pwrImm 5 2) ∧
    decode 0x002A = .ok (.xrd 1 0) ∧ decode 0x010A = .ok (.xrd 0 1) ∧
    decode 0x046B = .ok (.xwrReg 3 4) ∧ decode 0x5924 = .ok (.xwrImm 1 0x12) := by decide

theorem test_decode_memory :
    decode 0x022C = .ok (.mrdReg 1 2) ∧ decode 0x6220 = .ok (.mrdImm 1 0x20) ∧
    decode 0x022D = .ok (.mwrReg 1 2) ∧ decode 0x6A60 = .ok (.mwrImm 0x20 3) ∧
    decode 0x022E = .ok (.mroReg 1 2) ∧ decode 0x7004 = .ok (.mroImm 0 2) ∧
    decode 0x022F = .ok (.mwoReg 1 2) ∧ decode 0x78A2 = .ok (.mwoImm 1 5) ∧
    decode 0xA860 = .ok (.pop 3 0) ∧ decode 0xA9E0 = .ok (.psh 7 0) := by decide

theorem test_decode_register_forms :
    decode 0x0470 = .ok (.mulReg 3 4) ∧ decode 0x0471 = .ok (.cmpReg 3 4) ∧
    decode 0x0472 = .ok (.divReg 3 4) ∧ decode 0x0473 = .ok (.tstReg 3 4) ∧
    decode 0x0474 = .ok (.movReg 3 4) ∧ decode 0x0478 = .ok (.addReg 3 4) ∧
    decode 0x0479 = .ok (.subReg 3 4) ∧ decode 0x047A = .ok (.notReg 3 4) ∧
    decode 0x047B = .ok (.andReg 3 4) ∧ decode 0x047C = .ok (.orrReg 3 4) ∧
    decode 0x047D = .ok (.xorReg 3 4) ∧ decode 0x047E = .ok (.shlReg 3 4) ∧
    decode 0x047F = .ok (.shrReg 3 4) := by decide

theorem test_decode_immediate_forms :
    decode 0x8574 = .ok (.mulImm 3 0x5A) ∧ decode 0x8D74 = .ok (.cmpImm 3 0x5A) ∧
    decode 0x9574 = .ok (.divImm 3 0x5A) ∧ decode 0x9D74 = .ok (.tstImm 3 0x5A) ∧
    decode 0xA574 = .ok (.movImm 3 0x5A) ∧ decode 0xC574 = .ok (.addImm 3 0x5A) ∧
    decode 0xCD74 = .ok (.subImm 3 0x5A) ∧ decode 0xD574 = .ok (.notImm 3 0x5A) ∧
    decode 0xDD74 = .ok (.andImm 3 0x5A) ∧ decode 0xE574 = .ok (.orrImm 3 0x5A) ∧
    decode 0xED74 = .ok (.xorImm 3 0x5A) ∧ decode 0xF574 = .ok (.shlImm 3 0x5A) ∧
    decode 0xFD74 = .ok (.shrImm 3 0x5A) ∧ decode 0xA0A1 = .ok (.movImm 5 0x80) := by decide

theorem test_decode_cond_move :
    decode 0xB702 = .ok (.mcu 0b001 0 7) ∧ decode 0xBA28 = .ok (.mcs 0b100 1 2) := by decide

theorem test_decode_programmable_low :
    decode 0x3000 = .ok (.programmable0 0) ∧ decode 0x3100 = .ok (.programmable1 0) ∧
    decode 0x3200 = .ok (.programmable2 0) ∧ decode 0x3300 = .ok (.programmable3 0) ∧
    decode 0x3400 = .ok (.programmable4 0) ∧ decode 0x3500 = .ok (.programmable5 0) ∧
    decode 0x3600 = .ok (.programmable6 0) ∧ decode 0x3700 = .ok (.programmable7 0) := by decide

theorem test_decode_programmable_high :
    decode 0x3800 = .ok (.programmable8 0) ∧ decode 0x3900 = .ok (.programmable9 0) ∧
    decode 0x3A00 = .ok (.programmableA 0) ∧ decode 0x3B00 = .ok (.programmableB 0) ∧
    decode 0x3C00 = .ok (.programmableC 0) ∧ decode 0x3D00 = .ok (.programmableD 0) ∧
    decode 0x3E00 = .ok (.programmableE 0) ∧ decode 0x3FFF = .ok (.programmableF 0xFF) := by decide

/-- The ignored immediates of part 2. -/
theorem test_decode_ignored_fields :
    decode 0xAFFF = .ok (.nop 0xFF) ∧ decode 0xA81F = .ok (.pop 0 0x1F) ∧
    decode 0xABDF = .ok (.jmpReg 6 0x1F) := by decide

/-- The words that are no instruction, of part 2. -/
theorem test_decode_illegal :
    decode 0x0000 = .error .blankRegisterForm ∧ decode 0x0015 = .error .blankRegisterForm ∧
    decode 0x0016 = .error .blankRegisterForm ∧ decode 0x0C00 = .error .blankGroup01 ∧
    decode 0xAD00 = .error .blankGroup15 ∧ decode 0xAE00 = .error .blankGroup15 ∧
    decode 0x5000 = .error .xrdImmediateForm ∧ decode 0xAC01 = .error .mustBeZero ∧
    decode 0xB14F = .error .mustBeZero ∧ decode 0xB15E = .error .mustBeZero := by decide

theorem test_decodeTableWord :
    decodeTableWord 16 0x0238 = some (.addReg 1 2) ∧ decodeTableWord 16 0x0000 = none ∧
    decodeTableWord 16 0x10238 = none := by decide

theorem test_encode_examples :
    encode (.movImm 0 0x34) = 0xA308 ∧ encode (.jcs 0b111 0x80) = 0x280F ∧
    encode (.jmpImm 0x7FF) = 0x1FFF ∧ encode (.mcs 0b100 0 1) = 0xB908 ∧
    encode (.pxw 1 0) = 0x0F02 ∧ encode (.ret 0b0001) = 0xAC10 := by decide

/-! ### Well-formedness: each check refuses an ill-formed term -/

theorem test_wf_accepts : WellFormed (.nop 0) = true ∧ WellFormed (.pxr 3 14) = true ∧
    WellFormed (.pxw 31 0) = true ∧ WellFormed (.addReg 1 2) = true := by decide

/-- "ignore immediate, it should be set to 0" (R64, R65). -/
theorem test_wf_refuses_nonzero_ignored_field :
    WellFormed (.nop 1) = false ∧ WellFormed (.irt 1) = false ∧ WellFormed (.pop 0 1) = false ∧
    WellFormed (.jmpReg 6 0x1F) = false := by decide

/-- PX[31] is write-only and PX[3] is reserved (R31, R32). -/
theorem test_wf_refuses_unreadable_px :
    WellFormed (.pxr 0 31) = false ∧ WellFormed (.pxr 0 3) = false := by decide

/-- A write of PX[2] is not described, PX[15] is reserved (R29, R32). -/
theorem test_wf_refuses_unwritable_px :
    WellFormed (.pxw 2 0) = false ∧ WellFormed (.pxw 15 0) = false := by decide

/-- No program can use a programmable slot (R96). -/
theorem test_wf_refuses_programmable : WellFormed (.programmable0 0) = false := by decide

/-! ### One step of each instruction -/

/-- The constants of the vectors: CF = 0x010F, 64 kiW, and some handler address. -/
def testParams : Params := { cf := 0x010F, memKiW := 64, handlerAddr := 0x0040 }

/-- The vectors' start: supervisor, unpaged, IE = 1, all registers 0, the next word at 0x0100. -/
def baseState : State := { State.reset with ie := true, params := testParams, ip := 0x0100 }

/-- `baseState` with R1, R2, R3 and R4 given. -/
def withRegs (r1 r2 r3 r4 : Word) : State := { baseState with regs := #v[0, r1, r2, r3, r4, 0, 0, 0] }

/-- `baseState` with one word of memory given. -/
def withWord (s : State) (pa : PAddr) (v : Word) : State := { s with mem := s.mem.writeWord pa v }

/-- `baseState` in user mode. -/
def userState : State := { baseState with activePriv := 0x0003, px0 := 0x0003 }

/-- The paged user state of part 5, with pages 2 and 3 mapped to the last frame and the one beyond. -/
def pagedState : State :=
  { userState with
    pagingActive := true
    ptCache := #v[0xD001, 0xE002, 0xC00F, 0xC010, 0, 0, 0, 0, 0, 0, 0, 0, 0, 0, 0, 0] }

/-- What `f` sees after a step that runs the word `w`. -/
def after {α : Type} (s : State) (w : Nat) (f : State → α) : Option α :=
  match step (s.withFetchWord 16 w) with
  | .next t => some (f t)
  | _ => none

/-- The step that runs the word `w` stops with this fault. -/
def faults (s : State) (w : Nat) (e : Fault) : Bool :=
  match step (s.withFetchWord 16 w) with
  | .fault e' => decide (e = e')
  | _ => false

/-- The step that runs the word `w` is refused so. -/
def refuses (s : State) (w : Nat) (e : Refusal) : Bool :=
  match step (s.withFetchWord 16 w) with
  | .refused e' => decide (e = e')
  | _ => false

theorem test_int :
    after { baseState with ui := 0x0055 } 0x0880
      (fun t => [t.px10, t.px11, t.px12, t.ip, t.savedUi, t.ui]) =
      some [0x0040, 0x0101, 0, 0x0040, 0x0055, 0] := by decide
theorem test_int_double_fault : faults State.reset 0x0880 (.doubleFault 0x40) = true := by decide
theorem test_irt :
    after { baseState with ie := false, px11 := 0x0124, savedFl := 0b0110, savedUi := 0xABCD } 0x0900
      (fun t => ([t.ip, t.ui, t.activePriv, t.px0], t.fl, t.ie)) =
      some ([0x0124, 0xABCD, 3, 3], 0b0110, true) := by decide
theorem test_irt_user :
    after userState 0x0900 (fun t => [t.px10, t.px12, t.activePriv]) = some [2, 0x0900, 0] := by decide
theorem test_hlt :
    after { baseState with ie := false } 0x0A00 (fun t => (t.ip, t.ie, t.run)) =
      some (0x0101, true, .waiting) := by decide
theorem test_hcf :
    after baseState 0x0B00 (fun t => (t.ip, t.ie, t.run)) = some (0x0101, false, .dead) := by decide
theorem test_pxr : after { baseState with px10 := 4, ui := 0x12 } 0x0E74 (fun t => (t.reg 3, t.ui)) =
    some (4, 0) := by decide
theorem test_pxr_reserved : refuses baseState 0x0E21 (.unreadablePX 16) = true := by decide
theorem test_pxw : after (withRegs 0 0x0200 0 0) 0x0F56 (fun t => t.px11) = some 0x0200 := by decide
/-- Program P7, step 5. -/
theorem test_pxw_update :
    after (withWord (withWord { baseState with px1 := 0x0100 } 0x0110 0xD001) 0x0111 0xE002) 0x0F1F
      (fun t => (t.pagingActive, t.ip, t.ptCache[0], t.ptCache[1], t.ptCache[2])) =
      some (true, 0, 0xD001, 0xE002, 0) := by decide

theorem test_cal_imm : after { baseState with lr := 0xAAAA } 0x100A (fun t => [t.ip, t.lr]) =
    some [0x0106, 0x0101] := by decide
theorem test_cal_imm_signed : after { baseState with f1 := 2 } 0x17FF (fun t => [t.ip, t.lr]) =
    some [0x0100, 0x0101] := by decide
theorem test_jmp_imm : after { baseState with f1 := 2 } 0x1801 (fun t => t.ip) = some 0xFD01 := by
  decide
theorem test_jmp_imm_ui : after { baseState with ui := 0x00F8 } 0x1FFD (fun t => [t.ip, t.ui]) =
    some [0x00FF, 0] := by decide
theorem test_jcu_taken : after { baseState with ui := 0xFF } 0x27C3 (fun t => [t.ip, t.ui]) =
    some [0x00FD, 0] := by decide
theorem test_jcu_not_taken :
    after { baseState with ui := 0xFF, fl := 0b0001 } 0x27C3 (fun t => [t.ip, t.ui]) =
      some [0x0101, 0] := by decide
theorem test_jcs_taken : after { baseState with f1 := 2, fl := 0b1000 } 0x2FDD (fun t => t.ip) =
    some 0x00FE := by decide
theorem test_jcs_not_taken : after { baseState with fl := 0b1100 } 0x2FDD (fun t => t.ip) =
    some 0x0101 := by decide
theorem test_cal_reg : after (withRegs 0 0xFFFF 0 0) 0xAA40 (fun t => [t.ip, t.lr]) =
    some [0x0100, 0x0101] := by decide
theorem test_jmp_reg :
    after { baseState with regs := #v[0, 0, 0, 0, 0, 0, 0xFF00, 0], lr := 0x55 } 0xABDF
      (fun t => [t.ip, t.lr]) = some [0x0001, 0x55] := by decide
theorem test_ret : after { baseState with lr := 0x0234, fl := 0b0101 } 0xACA0
    (fun t => ([t.ip, t.lr], t.fl)) = some ([0x0234, 0x0234], 0b1010) := by decide
theorem test_nop : after { baseState with ui := 0x12, fl := 0b1001 } 0xAF00
    (fun t => ([t.ip, t.ui], t.fl)) = some ([0x0101, 0], 0b1001) := by decide

theorem test_prd_reg : after { withRegs 0 5 0 0 with portAnswers := [0xA5A5] } 0x0228
    (fun t => (t.reg 1, t.portTrace)) = some (0xA5A5, [.read 5]) := by decide
theorem test_prd_imm : after { baseState with ui := 1, portAnswers := [0x0077] } 0x402A
    (fun t => (t.reg 1, t.portTrace)) = some (0x0077, [.read 0x0105]) := by decide
theorem test_pwr_reg : after (withRegs 5 0xFACE 0 0) 0x0229 (fun t => t.portTrace) =
    some [.write 5 0xFACE] := by decide
theorem test_pwr_imm_user :
    after { userState with regs := #v[0, 0, 0xFACE, 0, 0, 0, 0, 0] } 0x484A
      (fun t => (t.px10, t.px12, t.portTrace)) = some (2, 0x484A, []) := by decide
theorem test_pwr_imm : after (withRegs 0 0xFACE 0 0) 0x484A (fun t => t.portTrace) =
    some [.write 5 0xFACE] := by decide
theorem test_xrd_ip : after baseState 0x002A (fun t => t.reg 1) = some 0x0101 := by decide
theorem test_xrd_cf : after { baseState with ui := 0xAA } 0x012A (fun t => t.reg 1) =
    some 0x010F := by decide
theorem test_xwr_reg_fl : after (withRegs 0 0 0 0xBEEF) 0x04AB (fun t => t.fl) = some 0b1111 := by
  decide
theorem test_xwr_reg_reserved : refuses (withRegs 0 0 0 8) 0x04CB (.reservedFeatureBit 8) = true := by
  decide
theorem test_xwr_imm_ui : after { baseState with ui := 0x34 } 0x5924 (fun t => t.ui) =
    some 0x3412 := by decide
theorem test_xwr_imm_ip : after { baseState with ui := 0x12 } 0x5B08 (fun t => [t.ip, t.ui]) =
    some [0x1234, 0] := by decide

theorem test_mrd_reg : after (withWord (withRegs 0 0x2000 0 0) 0x2000 0xBEEF) 0x022C
    (fun t => t.reg 1) = some 0xBEEF := by decide
/-- `mrd R1, R1` reads its own word. -/
theorem test_mrd_reg_same : after (withRegs 0x0100 0 0 0) 0x012C (fun t => t.reg 1) =
    some 0x012C := by decide
theorem test_mrd_imm : after (withWord { baseState with f1 := 2 } 0xFF80 0x0AAA) 0x6021
    (fun t => t.reg 1) = some 0x0AAA := by decide
theorem test_mwr_reg : after (withRegs 0x3000 0xCAFE 0 0) 0x022D
    (fun t => [t.mem.readWord 0x3000, t.reg 1, t.reg 2]) = some [0xCAFE, 0x3000, 0xCAFE] := by decide
/-- Page 0 of the paged state is not writable. -/
theorem test_mwr_imm_violation :
    after { pagedState with regs := #v[0, 0, 0x77, 0, 0, 0, 0, 0] } 0x6850
      (fun t => [t.px10, t.px11, t.px12, t.px13, t.mem.readWord 0x1008]) =
      some [3, 0x0101, 8, 1, 0] := by decide
theorem test_mwr_imm : after { withRegs 0 0 0x7777 0 with ui := 0xAB } 0x6A60
    (fun t => [t.mem.readWord 0xAB20, t.mem.readWord 0x20]) = some [0x7777, 0] := by decide
theorem test_mro_reg : after (withWord { withRegs 0 1 0 0 with offset := 0xFFFF } 0 0x0AF0) 0x022E
    (fun t => t.reg 1) = some 0x0AF0 := by decide
theorem test_mro_imm : after (withWord { baseState with offset := 0x1000 } 0x1002 0x4242) 0x7004
    (fun t => t.reg 0) = some 0x4242 := by decide
theorem test_mro_imm_without_r :
    after { baseState with params := { testParams with cf := 0x010B } } 0x7004
      (fun t => [t.px10, t.px12]) = some [6, 0x7004] := by decide
theorem test_mwo_reg : after { withRegs 0x2000 0x8888 0 0 with offset := 0x10 } 0x022F
    (fun t => t.mem.readWord 0x2010) = some 0x8888 := by decide
theorem test_mwo_imm :
    after { baseState with offset := 0x1000, regs := #v[0, 0, 0, 0, 0, 0x9999, 0, 0] } 0x78A2
      (fun t => t.mem.readWord 0x1001) = some 0x9999 := by decide
theorem test_pop : after (withWord { baseState with sp := 0xFFFF } 0xFFFF 0x2468) 0xA860
    (fun t => [t.reg 3, t.sp]) = some [0x2468, 0] := by decide
theorem test_psh : after { baseState with regs := #v[0, 0, 0, 0, 0, 0, 0, 0x1357] } 0xA9E0
    (fun t => [t.sp, t.mem.readWord 0xFFFF]) = some [0xFFFF, 0x1357] := by decide
theorem test_psh_fault : after pagedState 0xA9E0 (fun t => [t.px10, t.px12, t.sp]) =
    some [1, 0xFFFF, 0] := by decide

theorem test_add_reg : after { withRegs 0xFFFF 0xFFFF 0 0 with f1 := 1, fl := 0b0010 } 0x0238
    (fun t => (t.reg 1, t.fl)) = some (0xFFFF, 0b1010) := by decide
theorem test_add_reg_overflow : after (withRegs 0x8000 0x8000 0 0) 0x0238
    (fun t => (t.reg 1, t.fl)) = some (0, 0b0111) := by decide
theorem test_add_imm : after { withRegs 5 0 0 0 with f1 := 2 } 0xC73F (fun t => (t.reg 1, t.fl)) =
    some (4, 0b0010) := by decide
theorem test_sub_reg : after { withRegs 5 0xFFFF 0 0 with f1 := 1, fl := 0b0010 } 0x0239
    (fun t => (t.reg 1, t.fl)) = some (5, 0b0010) := by decide
theorem test_sub_reg_overflow : after (withRegs 0x7FFF 0xFFFF 0 0) 0x0239
    (fun t => (t.reg 1, t.fl)) = some (0x8000, 0b1110) := by decide
theorem test_sub_imm : after (withRegs 1 0 0 0) 0xC822 (fun t => (t.reg 1, t.fl)) =
    some (0, 0b0001) := by decide
theorem test_cmp_reg : after (withRegs 0 0 0xFFFB 3) 0x0471 (fun t => (t.reg 3, t.fl)) =
    some (0xFFFB, 0b1000) := by decide
theorem test_cmp_imm : after (withRegs 0 0 0x5A 0) 0x8D74 (fun t => t.fl) = some 0b0001 := by decide
theorem test_mul_reg : after (withRegs 0 0 0x00FF 0x00FF) 0x0470
    (fun t => t.reg 3) = some 0xFE01 := by decide
theorem test_mul_imm : after (withRegs 0 0 2 0) 0x8574 (fun t => t.reg 3) = some 0x00B4 := by decide
theorem test_div_reg_signed : after { withRegs 0 0 0xFFF9 2 with f1 := 4 } 0x0472
    (fun t => t.reg 3) = some 0xFFFD := by decide
theorem test_div_reg_unsigned : after (withRegs 0 0 0xFFF9 2) 0x0472 (fun t => t.reg 3) =
    some 0x7FFC := by decide
theorem test_div_imm_zero : after (withRegs 0 0 7 0) 0x9060
    (fun t => ([t.px10, t.px11, t.px12, t.reg 3], t.fl)) = some ([4, 0x0101, 0, 7], 0) := by decide
theorem test_div_imm : after (withRegs 0 0 0x00B4 0) 0x9574 (fun t => t.reg 3) = some 2 := by decide
theorem test_tst_reg : after (withRegs 0 0 0x8001 0x8000) 0x0473
    (fun t => [t.reg 3, t.reg 4]) = some [0x8001, 0x8000] := by decide
theorem test_tst_imm : after (withRegs 0 0 0xFF00 0) 0x9D74 (fun t => [t.reg 3, t.ip]) =
    some [0xFF00, 0x0101] := by decide
/-- S and Z of the vectors of MUL (0xFE01: 1, 0), TST (0xAAAA and 0x5555: 0, 1) and NOT (0xF00F). -/
theorem test_sign_zero (s : State) :
    signFlag (s.setSZ 0xFE01).fl = true ∧ zeroFlag (s.setSZ 0xFE01).fl = false ∧
    signFlag (s.setSZ 0).fl = false ∧ zeroFlag (s.setSZ 0).fl = true ∧
    signFlag (s.setSZ 0xF00F).fl = true := by
  simp; decide
theorem test_mov_reg : after { withRegs 0 0 1 0 with fl := 0b1111 } 0x0474
    (fun t => (t.reg 3, t.fl)) = some (0, 0b1111) := by decide
theorem test_mov_imm : after { baseState with ui := 0xAB12 } 0xA3A8 (fun t => [t.reg 5, t.ui]) =
    some [0x1234, 0] := by decide
theorem test_not_reg : after (withRegs 0 0 0 0x0FF0) 0x047A (fun t => t.reg 3) =
    some 0xF00F := by decide
theorem test_not_imm : after baseState 0xD574 (fun t => t.reg 3) = some 0xFFA5 := by decide
theorem test_and_reg : after (withRegs 0 0 0xF0F0 0x0FF0) 0x047B (fun t => t.reg 3) =
    some 0x00F0 := by decide
theorem test_and_imm : after (withRegs 0 0 0xFFFF 0) 0xDD74 (fun t => t.reg 3) = some 0x005A := by
  decide
theorem test_orr_reg : after (withRegs 0 0 0xF0F0 0x0FF0) 0x047C (fun t => t.reg 3) =
    some 0xFFF0 := by decide
theorem test_orr_imm : after (withRegs 0 0 0xF000 0) 0xE574 (fun t => t.reg 3) = some 0xF05A := by
  decide
theorem test_xor_reg : after (withRegs 0 0 0xF0F0 0x0FF0) 0x047D (fun t => t.reg 3) =
    some 0xFF00 := by decide
theorem test_xor_imm : after (withRegs 0 0 0x005A 0) 0xED74
    (fun t => t.reg 3) = some 0 := by decide
theorem test_shl_reg : after (withRegs 0 0 1 0x0010) 0x047E
    (fun t => t.reg 3) = some 0 := by decide
theorem test_shl_imm : after { baseState with regs := #v[0x10, 0, 0, 0, 0, 0, 0, 0] } 0xF002
    (fun t => t.reg 0) = some 0x20 := by decide
theorem test_shr_reg : after { withRegs 0 0 0x8000 16 with f1 := 4 } 0x047F (fun t => t.reg 3) =
    some 0xFFFF := by decide
/-- Example S3: reading UI back. -/
theorem test_shr_imm : after { baseState with regs := #v[0xAB00, 0, 0, 0, 0, 0, 0, 0] } 0xF810
    (fun t => t.reg 0) = some 0x00AB := by decide
theorem test_mcu : after { withRegs 9 7 0 0 with fl := 0b1000 } 0xB148 (fun t => t.reg 2) = some 7 := by
  decide
theorem test_mcs : after { withRegs 3 0 0 0 with fl := 0b1000 } 0xB908 (fun t => t.reg 0) = some 3 := by
  decide
theorem test_programmable : after { baseState with ip := 0x0040 } 0x3000
    (fun t => [t.px10, t.px11, t.px12]) = some [6, 0x0041, 0x3000] := by decide
theorem test_illegal_word : after { baseState with ip := 0x0040 } 0x0000
    (fun t => [t.px10, t.px11, t.px12]) = some [6, 0x0041, 0] := by decide

/-- R92, R183: the device at port 9 ends the wait of HLT. -/
theorem test_io_interrupt :
    (match step { baseState with run := .waiting, ip := 0x0011, arrivals := [[9]] } with
      | .next t => some ([t.px10, t.px11, t.px12, t.ip], t.run, t.pending)
      | _ => none) = some ([5, 0x0011, 9, 0x0040], .running, []) := by decide

/-! ### Witnesses: the hypotheses of each obligation, met together -/

/-- Every state of the witnesses below has memory in canonical form. -/
theorem witness_wf : baseState.mem.wf ∧ pagedState.mem.wf := by decide

theorem witness_EncodeRestoresTheDecodedWord : decode 0xFFFF = .ok (.shrImm 7 0xFF) := by decide

/-- Both sides of the table's equivalence, at the first word and the last of a row. -/
theorem witness_DecodingFollowsTheOpcodeTable :
    (0xAC00 : Word) &&& (tableRow (.ret 0)).mask = (tableRow (.ret 0)).fixed ∧
    decode 0xACF0 = .ok (.ret 0b1111) := by decide

/-- Each clause of the list, at the first and last word of a range. -/
theorem witness_WordsThatAreNoInstruction :
    [0x0000, 0x0007, 0x0015, 0x0716, 0x07F7, 0x0C00, 0x0DFF, 0xAD00, 0xAEFF, 0x5000, 0x57FF, 0xAC01,
      0xACFF, 0xB001, 0xB010, 0xBFFF].all
      (fun w => decodeTableWord 16 w == none) = true ∧
    [0x0008, 0x07F4, 0x0BFF, 0x0E00, 0x4FFF, 0x5800, 0xAC00, 0xAF00, 0xB7EE].all
      (fun w => decodeTableWord 16 w != none) = true := by decide

/-- The widths and the bits at both ends of the ranges. -/
theorem witness_ExtendedImmediateBits :
    0 < 1 ∧ 1 ≤ 16 ∧ 0 < 16 ∧ 0 < 16 ∧ 16 ≤ 16 ∧ 15 < 16 := by decide

theorem witness_StepRunsTheDecodedInstruction :
    let s := baseState.withFetchWord 16 0xAF00
    s.run = .running ∧ s.receive.deliverable = none ∧
    s.receive.translate .execute s.ip = .ok 0x0100 ∧
    decode (s.receive.fetchedWord 0x0100) = .ok (.nop 0) := by decide

/-- With interrupts enabled, and disabled with a request pending. -/
theorem witness_IllegalWordRaisesInterruptSix :
    let s := baseState
    let s' : State := { baseState with ie := false, pending := [⟨5, 9, 0, 0⟩] }
    (s.run = .running ∧ s.receive.deliverable = none ∧ s.ie = true ∧
      s.receive.translate .execute s.ip = .ok 0x0100 ∧
      decode (s.receive.fetchedWord 0x0100) = .error .blankRegisterForm) ∧
    (s'.run = .running ∧ s'.receive.deliverable = none ∧ s'.ie = false ∧
      s'.receive.translate .execute s'.ip = .ok 0x0100 ∧
      decode (s'.receive.fetchedWord 0x0100) = .error .blankRegisterForm) := by decide

/-- A fetch from page 1 (not executable), from page 15 (absent), from the frame just beyond memory,
and the first of them with interrupts disabled. -/
theorem witness_FetchFaults :
    let s : State := { pagedState with ip := 0x1001 }
    let s' : State := { pagedState with ip := 0xFFFF, ie := false }
    let s'' : State := { pagedState with ip := 0x3000, ptCache := pagedState.ptCache.set 3 0xD010 }
    (s.run = .running ∧ s.receive.deliverable = none ∧
      s.receive.translate .execute s.ip = .interrupt 3 0x1001 2 ∧ s.ie = true) ∧
    (s'.run = .running ∧ s'.receive.deliverable = none ∧
      s'.receive.translate .execute s'.ip = .interrupt 1 0xFFFF 0 ∧ s'.ie = false) ∧
    (s''.run = .running ∧ s''.receive.deliverable = none ∧
      s''.receive.translate .execute s''.ip = .absent 0x010000) := by decide

/-- F2.P set; a word no store has touched; a word stored to. -/
theorem witness_FetchReturnsAValueTheWordHeld :
    let s : State := { baseState with f2 := 1 }
    s.mem.wf ∧ s.f2.getLsbD 0 = true ∧ s.replaced = [] ∧
    (s.storeWord 0xFFFF 7).heldValues 0xFFFF = [7, 0] := by decide

theorem witness_RequestsJoinPending :
    let s : State := { baseState with pending := [⟨5, 1, 0, 0⟩], arrivals := [[1, 2], [3]] }
    s.pending.Nodup ∧ s.receive.pending = [⟨5, 1, 0, 0⟩, ⟨5, 2, 0, 0⟩] := by decide

/-- A running and a waiting processor; ids that differ. -/
theorem witness_LowestPendingRequestIsTaken :
    let s : State := { baseState with pending := [⟨6, 0, 0, 0⟩, ⟨5, 9, 0, 0⟩] }
    let s' : State := { baseState with run := .waiting, arrivals := [[9]] }
    (s.run ≠ .dead ∧ s.ie = true ∧ s.receive.pending ≠ [] ∧
      s.receive.deliverable = some ⟨5, 9, 0, 0⟩) ∧
    (s'.run ≠ .dead ∧ s'.ie = true ∧ s'.receive.pending ≠ []) := by decide

theorem witness_DeadAndWaitingRunNothing :
    ({ baseState with run := .dead } : State).run = .dead ∧
    ({ baseState with run := .waiting } : State).receive.deliverable = none := by decide

theorem witness_IntEntersTheHandler : baseState.ie = true ∧ userState.ie = true := by decide

/-- The five clauses: reset state with IE = 0; user mode; no extension; a divisor of 0. -/
theorem witness_InterruptWhileDisabledIsADoubleFault :
    let s : State := { userState with ie := false, params := { testParams with cf := 0x0002 } }
    s.ie = false ∧ Privileged (.irt 0) ∧ s.activePriv ≠ 0 ∧
    NeedsExtension .multiply (.mulReg 0 1) ∧ s.has .multiply = false ∧ Programmable (.programmable0 0) ∧
    TwoOperand .divReg .divImm s (.divReg 0 1) 0 0 ∧ s.has .divide = true :=
  ⟨by decide, .irt 0, by decide, .mulReg 0 1, by decide, .p0 0, .inl ⟨1, rfl, by decide⟩, by decide⟩

theorem witness_IrtReturns : baseState.activePriv = 0x0000 := by decide

theorem witness_PrivilegedInstructionsTrapInUserMode :
    Privileged (.pwrImm 5 2) ∧ userState.activePriv ≠ 0x0000 ∧ userState.ie = true :=
  ⟨.pwrImm 5 2, by decide, by decide⟩

theorem witness_MissingExtensionRaisesInterruptSix :
    let s : State := { baseState with params := { testParams with cf := 0x0000 } }
    NeedsExtension .relative (.xrd 1 4) ∧ s.has .relative = false ∧ s.ie = true :=
  ⟨.xrdOf 1, by decide, by decide⟩

theorem witness_ProgrammableSlotsRaiseInterruptSix :
    Programmable (.programmableF 0xFF) ∧ baseState.ie = true := ⟨.pF 0xFF, by decide⟩

theorem witness_HltWaitsAndHcfStops : baseState.activePriv = 0x0000 := by decide

/-- Reserved numbers at both ends of both reserved ranges, and PX[31]. -/
theorem witness_PxrReadsPrivilegedRegisters :
    baseState.activePriv = 0x0000 ∧
    ∀ num ∈ ([3, 9, 15, 30, 31] : List (BitVec 5)),
      num.toNat ∉ [0, 1, 2, 10, 11, 12, 13, 14] := by decide

theorem witness_PxwWritesPrivilegedRegisters :
    baseState.activePriv = 0x0000 ∧
    ∀ num ∈ ([2, 3, 9, 15, 30] : List (BitVec 5)),
      num.toNat ∉ [0, 1, 10, 11, 12, 13, 14, 31] := by decide

/-- An undefined level; page 0 not mapped; a table taken, at the last address where 64 kiW hold all of
it, at the first where an entry lies beyond and at the last where entry 0 does not; and the first where
entry 0 does. -/
theorem witness_PxwUpdatesTheMachineState :
    baseState.activePriv = 0x0000 ∧
    refuses { baseState with px0 := 1 } 0x0F1F (.undefinedPrivilege 1) = true ∧
    faults { baseState with px0 := 3 } 0x0F1F .pageZeroNotMapped = true ∧
    (0xFFE0 : Word).toNat + 0x10 + 15 < testParams.memKiW.toNat * 1024 ∧
    after (withWord { baseState with px1 := 0xFFE0 } 0xFFFF 0x8000) 0x0F1F (fun t => t.ptCache[0]) =
      none ∧
    after (withWord { baseState with px1 := 0xFFE0 } 0xFFF0 0x8000) 0x0F1F (fun t => t.ptCache[0]) =
      some 0x8000 ∧
    testParams.memKiW.toNat * 1024 ≤ (0xFFE1 : Word).toNat + 0x10 + 15 ∧
    after (withWord { baseState with px1 := 0xFFE1 } 0xFFF1 0x9001) 0x0F1F
      (fun t => (t.ptCache[0], t.pagingActive, t.ptBase, t.ip)) = some (0x9001, true, 0xFFE1, 0) ∧
    after (withWord { baseState with px1 := 0xFFEF } 0xFFFF 0x9001) 0x0F1F (fun t => t.ptCache[0]) =
      some 0x9001 ∧
    testParams.memKiW.toNat * 1024 ≤ (0xFFF0 : Word).toNat + 0x10 := by decide

theorem witness_JmpRegisterJumps :
    let s : State := { baseState with ip := 0, regs := #v[0xFFFF, 0, 0, 0, 0, 0, 0, 0] }
    s.ip = 0xFFFF + 1 ∧ s.reg 0 = 0xFFFF := by decide

theorem witness_ConditionTables :
    TwoOperand .cmpReg .cmpImm (withRegs 0 0 0xFFFB 3) (.cmpReg 3 4) 3 3 ∧
    (withRegs 0 0 0xFFFB 3).f1.getLsbD 0 = false ∧
    ∃ t, exec (.cmpReg 3 4) (withRegs 0 0 0xFFFB 3) = .next t :=
  ⟨.inl ⟨4, rfl, by decide⟩, by decide, _, rfl⟩

theorem witness_PrdReadsThePort :
    TwoOperand .prdReg .prdImm baseState (.prdImm 1 5) 1 5 ∧ baseState.activePriv = 0x0000 ∧
    baseState.portAnswers = [] ∧
    ({ baseState with portAnswers := [7] } : State).portAnswers = 7 :: [] :=
  ⟨.inr ⟨5, rfl, by decide⟩, by decide, rfl, rfl⟩

theorem witness_PwrWritesThePort :
    AddressOperand .pwrReg .pwrImm baseState (.pwrImm 5 2) 5 2 ∧ baseState.activePriv = 0x0000 :=
  ⟨.inr ⟨5, rfl, by decide⟩, by decide⟩

theorem witness_XrdReadsExternalRegisters : baseState.has .relative = true := by decide

/-- Each of the eight registers; F1 and F2 at the highest values that may be written. -/
theorem witness_XwrWritesExternalRegisters :
    (∀ e : BitVec 3, TwoOperand .xwrReg .xwrImm (withRegs 0 0 0 7) (.xwrReg e 4) e 7) ∧
    TwoOperand .xwrReg .xwrImm (withRegs 0 0 0 1) (.xwrReg 7 4) 7 1 ∧
    (7 : Word).toNat < 8 ∧ (1 : Word).toNat < 2 ∧
    baseState.params.cf.getLsbD 8 = true ∧ baseState.has .relative = true :=
  ⟨fun e => .inl ⟨4, rfl, by decide⟩, .inl ⟨4, rfl, by decide⟩, by decide, by decide, by decide,
    by decide⟩

/-- The least values refused, and F1.B where CF.B = 0. -/
theorem witness_XwrRefusesReservedFeatureBits :
    TwoOperand .xwrReg .xwrImm (withRegs 0 0 0 8) (.xwrReg 6 4) 6 8 ∧ 8 ≤ (8 : Word).toNat ∧
    TwoOperand .xwrReg .xwrImm (withRegs 0 0 0 2) (.xwrReg 7 4) 7 2 ∧ 2 ≤ (2 : Word).toNat ∧
    refuses { withRegs 0 0 0 7 with params := { testParams with cf := 0x000F } } 0x04CB
      (.bigIntAbsent 7) = true :=
  ⟨.inl ⟨4, rfl, by decide⟩, by decide, .inl ⟨4, rfl, by decide⟩, by decide, by decide⟩

/-- Every outcome, at the first and last addresses of pages and frames. -/
theorem witness_TranslationFollowsThePageTable :
    baseState.translate .read 0xFFFF = .ok 0xFFFF ∧
    pagedState.translate .read 0x0FFF = .ok 0x1FFF ∧
    pagedState.translate .write 0x1000 = .ok 0x2000 ∧
    pagedState.translate .read 0x2FFF = .ok 0xFFFF ∧
    pagedState.translate .read 0x3000 = .absent 0x10000 ∧
    pagedState.translate .write 0x0000 = .interrupt 3 0 1 ∧
    pagedState.translate .execute 0x1FFF = .interrupt 3 0x1FFF 2 ∧
    pagedState.translate .execute 0x4000 = .interrupt 1 0x4000 0 := by decide

/-- MRD at the last readable word of memory, MRO with a sum that wraps. -/
theorem witness_LoadsReadTheWord :
    TwoOperand .mrdReg .mrdImm { pagedState with regs := #v[0x2FFF, 0, 0, 0, 0, 0, 0, 0] }
      (.mrdReg 1 0) 1 0x2FFF ∧
    pagedState.translate .read 0x2FFF = .ok 0xFFFF ∧
    TwoOperand .mroReg .mroImm baseState (.mroImm 1 0xFF) 1 0xFF ∧ baseState.has .relative = true ∧
    ({ baseState with offset := 0xFF01 } : State).translate .read (0xFF01 + 0xFF) = .ok 0 :=
  ⟨.inl ⟨0, rfl, by decide⟩, by decide, .inr ⟨0xFF, rfl, by decide⟩, by decide, by decide⟩

theorem witness_StoresWriteTheWord :
    AddressOperand .mwrReg .mwrImm pagedState (.mwrReg 0 2) 0 2 ∧
    pagedState.translate .write 0x1FFF = .ok 0x2FFF ∧
    AddressOperand .mwrReg .mwrImm baseState (.mwrImm 0xFF 2) 0xFF 2 ∧
    baseState.translate .write 0xFF = .ok 0xFF ∧
    AddressOperand .mwoReg .mwoImm baseState (.mwoImm 0xFF 2) 0xFF 2 ∧
    baseState.has .relative = true ∧
    baseState.translate .write (baseState.offset + 0xFF) = .ok 0xFF ∧ baseState.mem.wf :=
  ⟨.inl ⟨0, rfl, by decide⟩, by decide, .inr ⟨0xFF, rfl, by decide⟩, by decide,
    .inr ⟨0xFF, rfl, by decide⟩, by decide, by decide, by decide⟩

/-- SP at both ends of memory. -/
theorem witness_PopAndPsh :
    ({ baseState with sp := 0xFFFF } : State).translate .read 0xFFFF = .ok 0xFFFF ∧
    baseState.translate .write (baseState.sp - 1) = .ok 0xFFFF ∧ baseState.mem.wf := by decide

/-- A page that is absent, one that is not writable, a frame just beyond memory; IE = 1 and 0. -/
theorem witness_DataAccessFaults :
    let s : State := { pagedState with ie := false }
    DataAccess pagedState (.psh 7 0) .write (pagedState.sp - 1) ∧
    pagedState.translate .write (pagedState.sp - 1) = .interrupt 1 0xFFFF 0 ∧ pagedState.ie = true ∧
    DataAccess s (.mwrImm 0 1) .write 0 ∧ s.translate .write 0 = .interrupt 3 0 1 ∧ s.ie = false ∧
    DataAccess { s with sp := 0x3000 } (.pop 0 0) .read 0x3000 ∧
    s.translate .read 0x3000 = .absent 0x10000 :=
  ⟨.store (.psh 7 0), by decide, by decide, .store (.mwr (.inr ⟨0, rfl, by decide⟩)), by decide,
    by decide, .load (.pop 0 0),
    by decide⟩

/-- MWR, then MRD of the word under another name (page 4 is page 1's frame) and of another word. -/
theorem witness_LoadSeesTheLatestStore :
    let s : State :=
      { pagedState with
        ptCache := pagedState.ptCache.set 4 0xE002
        regs := #v[0x1005, 0x4005, 0x77, 0, 0, 0, 0, 0] }
    let t : State := { s.storeWord 0x2005 0x77 with ui := 0 }
    s.mem.wf ∧ StoreAccess s (.mwrReg 0 2) 0x1005 2 ∧ s.translate .write 0x1005 = .ok 0x2005 ∧
    exec (.mwrReg 0 2) s = .next t ∧
    LoadAccess t (.mrdReg 3 1) 3 0x4005 ∧ t.translate .read 0x4005 = .ok 0x2005 ∧
    LoadAccess t (.mrdImm 3 0) 3 0 ∧ t.translate .read 0 = .ok 0x1000 :=
  ⟨by decide, .mwr (.inl ⟨0, rfl, by decide⟩), by decide, rfl,
    .mrd (.inl ⟨1, rfl, by decide⟩), by decide, .mrd (.inr ⟨0, rfl, by decide⟩), by decide⟩

/-- PSH at the bottom of the address space, then POP; MWO and MRO with a sum that wraps. -/
theorem witness_LoadSeesTheLatestStore_stack :
    let s : State := { baseState with offset := 0xFF01 }
    let t : State := { s.storeWord 0xFFFF 0 with sp := 0xFFFF, ui := 0 }
    StoreAccess s (.psh 7 0) 0xFFFF 7 ∧ s.translate .write 0xFFFF = .ok 0xFFFF ∧
    exec (.psh 7 0) s = .next t ∧
    LoadAccess t (.pop 1 0) 1 0xFFFF ∧ t.translate .read 0xFFFF = .ok 0xFFFF ∧
    StoreAccess s (.mwoImm 0xFF 2) (0xFF01 + 0xFF) 2 ∧
    LoadAccess s (.mroImm 1 0xFF) 1 (0xFF01 + 0xFF) :=
  ⟨.psh 7 0, by decide, rfl, .pop 1 0, by decide,
    .mwo (by decide) (.inr ⟨0xFF, rfl, by decide⟩), .mro (by decide) (.inr ⟨0xFF, rfl, by decide⟩)⟩

theorem witness_ArithmeticAndLogic :
    TwoOperand .addReg .addImm baseState (.addImm 1 0xFF) 1 0xFF ∧
    TwoOperand .subReg .subImm baseState (.subReg 1 2) 1 0 ∧
    TwoOperand .cmpReg .cmpImm baseState (.cmpReg 1 2) 1 0 ∧
    TwoOperand .tstReg .tstImm baseState (.tstReg 1 2) 1 0 ∧
    TwoOperand .notReg .notImm baseState (.notReg 1 2) 1 0 ∧
    TwoOperand .andReg .andImm baseState (.andReg 1 2) 1 0 ∧
    TwoOperand .orrReg .orrImm baseState (.orrReg 1 2) 1 0 ∧
    TwoOperand .xorReg .xorImm baseState (.xorReg 1 2) 1 0 ∧
    TwoOperand .shlReg .shlImm baseState (.shlImm 1 16) 1 16 ∧
    TwoOperand .shrReg .shrImm baseState (.shrImm 1 15) 1 15 :=
  ⟨.inr ⟨0xFF, rfl, by decide⟩, .inl ⟨2, rfl, by decide⟩, .inl ⟨2, rfl, by decide⟩,
    .inl ⟨2, rfl, by decide⟩, .inl ⟨2, rfl, by decide⟩, .inl ⟨2, rfl, by decide⟩,
    .inl ⟨2, rfl, by decide⟩, .inl ⟨2, rfl, by decide⟩, .inr ⟨16, rfl, by decide⟩,
    .inr ⟨15, rfl, by decide⟩⟩

/-- MUL and DIV with their extensions; a divisor of 0 with IE = 1, and one of 1. -/
theorem witness_MulAndDiv :
    TwoOperand .mulReg .mulImm baseState (.mulImm 1 0xFF) 1 0xFF ∧ baseState.has .multiply = true ∧
    TwoOperand .divReg .divImm baseState (.divImm 1 1) 1 1 ∧ baseState.has .divide = true ∧
    TwoOperand .divReg .divImm baseState (.divReg 1 2) 1 0 ∧ baseState.ie = true :=
  ⟨.inr ⟨0xFF, rfl, by decide⟩, by decide, .inr ⟨1, rfl, by decide⟩, by decide,
    .inl ⟨2, rfl, by decide⟩, by decide⟩

theorem witness_MoveInstructions :
    TwoOperand .movReg .movImm baseState (.movImm 1 0xFF) 1 0xFF ∧
    baseState.has .conditionalMove = true ∧ condU 0b111 baseState.fl = true ∧
    condS 0b111 baseState.fl = true ∧ condU 0b000 baseState.fl = false ∧
    condS 0b000 baseState.fl = false :=
  ⟨.inr ⟨0xFF, rfl, by decide⟩, by decide, by decide, by decide, by decide, by decide⟩

/-- 0x0001FFFF + 0x00020001, program P3. -/
theorem witness_BigIntAdditionAddsTwoWords :
    let s : State := { baseState with regs := #v[0xFFFF, 0x0001, 0x0001, 0x0002, 0, 0, 0, 0] }
    s.f1.getLsbD 0 = false ∧
    (match exec (.addReg 0 2) s with
      | .next t =>
        match exec (.addReg 1 3) { t with f1 := t.f1 ||| 1 } with
        | .next u => u.reg 0 ++ u.reg 1
        | _ => 0xFFFFFFFF#32
      | _ => 0xFFFFFFFF#32) = 0x00000004 := by decide

/-- A state with the invariant that takes a step, in user mode with paging on. -/
theorem witness_StepKeepsTheInvariant :
    pagedState.Inv ∧ after pagedState 0xAF00 (fun t => t.ip) = some 0x0101 := by
  refine ⟨⟨by decide, .inr rfl, by decide, by decide, by decide, by decide, .nil, ?_⟩, by decide⟩
  intro r h
  cases h

/-- `exec` answers a next state. -/
def runs (i : Instr) (s : State) : Bool :=
  match exec i s with
  | .next _ => true
  | _ => false

theorem next_of_runs {i : Instr} {s : State} (h : runs i s = true) : ∃ t, exec i s = .next t := by
  unfold runs at h
  split at h
  · exact ⟨_, ‹_›⟩
  · cases h

theorem witness_UserModeLeavesTheSystemAlone :
    userState.activePriv ≠ 0x0000 ∧ ∃ t, exec (.addReg 1 2) userState = .next t :=
  ⟨by decide, next_of_runs (by decide)⟩

/-- Instructions of the kinds that the whole-machine statements list. -/
theorem witness_OnlyTheListedInstructions :
    (∃ t, exec (.pxw 31 0) (withWord baseState 0x10 0x8000) = .next t) ∧
    (∃ t, exec (.irt 0) baseState = .next t) ∧ (∃ t, exec (.xwrReg 1 4) baseState = .next t) ∧
    (∃ t, exec (.pop 1 0) baseState = .next t) ∧ (∃ t, exec (.calImm 1) baseState = .next t) :=
  ⟨next_of_runs (by decide), next_of_runs (by decide), next_of_runs (by decide),
    next_of_runs (by decide), next_of_runs (by decide)⟩

/-- MWR [R1], R2 as a step: it stores at the address its access names. -/
theorem witness_OnlyStoresChangeMemory :
    let s := withRegs 0x3000 0xCAFE 0 0
    DataAccess s (.mwrReg 1 2) .write 0x3000 ∧ s.translate .write 0x3000 = .ok 0x3000 ∧
    after s 0x022D (fun t => t.mem.readWord 0x3000) = some 0xCAFE :=
  ⟨.store (.mwr (.inl ⟨1, rfl, by decide⟩)), by decide, by decide⟩

end Sys2Proof.Tests
end

/-! PROOFS. CAL and JMP with a register operand, and NOP (spec/41_control.md R105, R106, R108). -/

namespace Sys2Proof

/-- Format L_REGIMM with its ignored field at zero, as R105 and R106 print the word. -/
theorem wordLReg_zero (op : BitVec 8) (r : Reg) : wordLReg op r 0 = put op 8 ||| put r 5 := by
  simp [wordLReg, put]

/-- Format L with its ignored field at zero, as R108 prints the word. -/
theorem wordL_zero (op : BitVec 8) : wordL op 0 = put op 8 := by
  simp [wordL, put]

namespace Machine

/-! ### The shared operations -/

theorem State.finish_jumpBy_next {s t : State} {off : Word} :
    (s.jumpBy off).finish = .next t ↔ t = { s with ip := s.ip + off, ui := 0 } :=
  State.finish_next

theorem State.callBy_next {s t : State} {off : Word} :
    s.callBy off = .next t ↔ t = { s with lr := s.ip, ip := s.ip + off, ui := 0 } :=
  State.finish_next

/-! ### What the instructions are in terms of them -/

theorem exec_calReg_eq_callBy (src : Reg) (low : BitVec 5) (s : State) :
    exec (.calReg src low) s = s.callBy (s.reg src) := rfl

theorem exec_jmpReg_eq_finish_jumpBy (src : Reg) (low : BitVec 5) (s : State) :
    exec (.jmpReg src low) s = (s.jumpBy (s.reg src)).finish := rfl

theorem exec_nop_eq_finish (low : BitVec 8) (s : State) : exec (.nop low) s = s.finish := rfl

/-! ### Their next states -/

theorem exec_calReg_next (src : Reg) (low : BitVec 5) (s : State) :
    exec (.calReg src low) s = .next { s with lr := s.ip, ip := s.ip + s.reg src, ui := 0 } :=
  (exec_calReg_eq_callBy src low s).trans (State.callBy_next.2 rfl)

theorem exec_jmpReg_next (src : Reg) (low : BitVec 5) (s : State) :
    exec (.jmpReg src low) s = .next { s with ip := s.ip + s.reg src, ui := 0 } :=
  (exec_jmpReg_eq_finish_jumpBy src low s).trans (State.finish_jumpBy_next.2 rfl)

theorem exec_nop_next (low : BitVec 8) (s : State) : exec (.nop low) s = .next { s with ui := 0 } :=
  (exec_nop_eq_finish low s).trans (State.finish_next.2 rfl)

/-- The corner case of R106: an offset of 0xFFFF is -1 modulo 2^16 (R8), so the jump goes back to the
address `a` of the instruction itself. -/
theorem exec_jmpReg_self {s : State} {src : Reg} {a : Word} (low : BitVec 5) (hip : s.ip = a + 1)
    (hreg : s.reg src = 0xFFFF) : exec (.jmpReg src low) s = .next { s with ip := a, ui := 0 } := by
  have htarget : s.ip + s.reg src = a := by
    rw [hip, hreg]
    bv_omega
  rw [exec_jmpReg_next, htarget]

/-! ### The statements -/

/-- Settles O26. -/
theorem calRegisterCalls : Obligations.CalRegisterCalls :=
  ⟨fun src => wordLReg_zero 0xAA src, fun s src low => exec_calReg_next src low s⟩

/-- Settles O27. -/
theorem jmpRegisterJumps : Obligations.JmpRegisterJumps :=
  ⟨fun src => wordLReg_zero 0xAB src, fun s src low => exec_jmpReg_next src low s,
    fun _ _ low _ hip hreg => exec_jmpReg_self low hip hreg⟩

/-- Settles O30. -/
theorem nopDoesNothing : Obligations.NopDoesNothing :=
  ⟨wordL_zero 0xAF, fun s low => exec_nop_next low s⟩

end Machine

end Sys2Proof

/-! PROOFS. The encoding: the round trips, the opcode table's rows and the words that are no instruction
(spec/30_encoding.md R60 to R80). -/

namespace Sys2Proof

/-! ### Bit order of an immediate (spec/30_encoding.md R63) -/

/-- Bit 0 of the field is the immediate's top bit; the others stand one place above their own. -/
theorem getLsbD_fieldOfImm {n : Nat} (v : BitVec (n + 1)) (k : Nat) (hk : k < n + 1) :
    (fieldOfImm v).getLsbD k = if k = 0 then v.getLsbD n else v.getLsbD (k - 1) := by
  by_cases h0 : k = 0
  · simp [fieldOfImm, h0]
  · have hhigh : v.getLsbD (n + k) = false := BitVec.getLsbD_of_ge v _ (by omega)
    simp only [fieldOfImm, Nat.add_sub_cancel, BitVec.getLsbD_or, BitVec.getLsbD_shiftLeft,
      BitVec.getLsbD_ushiftRight, hhigh, Bool.or_false, if_neg h0]
    simp [hk, h0]

/-- The top bit of the immediate is the field's bit 0; the others stand one place below their own. -/
theorem getLsbD_immOfField {n : Nat} (f : BitVec (n + 1)) (k : Nat) (hk : k < n + 1) :
    (immOfField f).getLsbD k = if k = n then f.getLsbD 0 else f.getLsbD (k + 1) := by
  by_cases hn : k = n
  · simp [immOfField, hn, Nat.add_comm 1 n]
  · simp [immOfField, hn, hk, show k < n by omega, Nat.add_comm 1 k]

theorem immOfField_fieldOfImm {n : Nat} (v : BitVec (n + 1)) : immOfField (fieldOfImm v) = v := by
  apply BitVec.eq_of_getLsbD_eq
  intro k hk
  rw [getLsbD_immOfField _ _ hk]
  split_ifs with hn
  · rw [getLsbD_fieldOfImm _ _ (by omega), if_pos rfl, hn]
  · rw [getLsbD_fieldOfImm _ _ (by omega), if_neg (by omega), Nat.add_sub_cancel]

theorem fieldOfImm_immOfField {n : Nat} (f : BitVec (n + 1)) : fieldOfImm (immOfField f) = f := by
  apply BitVec.eq_of_getLsbD_eq
  intro k hk
  rw [getLsbD_fieldOfImm _ _ hk]
  split_ifs with h0
  · rw [getLsbD_immOfField _ _ (by omega), if_pos rfl, h0]
  · rw [getLsbD_immOfField _ _ (by omega), if_neg (by omega), show k - 1 + 1 = k by omega]

/-- Settles O6. -/
theorem mostSignificantBitComesLast : Obligations.MostSignificantBitComesLast := by
  intro n v
  refine ⟨fun i hi => ?_, ?_, immOfField_fieldOfImm v, fieldOfImm_immOfField v⟩
  · rw [getLsbD_fieldOfImm _ _ (by omega), if_neg (by omega), Nat.add_sub_cancel]
  · rw [getLsbD_fieldOfImm _ _ (by omega), if_pos rfl]

/-! ### Decoding what was encoded -/

/-- The number of a programmable slot, read back from its long opcode (R80). -/
@[simp] theorem slotNumber_wordL (op : BitVec 8) (field : BitVec 8) :
    (wordL op field).extractLsb' 8 4 = op.extractLsb' 0 4 := by
  ext i hi
  interval_cases i <;> simp [wordL, put]

/-- The four low bits of RET are zero (R66), so the decoder does not turn the word away. -/
theorem decodeRet_wordRet (op : BitVec 8) (socz : FlagBits) :
    decodeRet (wordRet op socz) = .ok (.ret socz) := by
  have hzero : (wordRet op socz).extractLsb' 0 4 = 0 := by
    ext i hi
    interval_cases i <;> simp [wordRet, put]
  have hsocz : (wordRet op socz).extractLsb' 4 4 = socz := by
    ext i hi
    interval_cases i <;> simp [wordRet, put]
  simp [decodeRet, hzero, hsocz]

/-- Bits 4 and 0 of S_MCC are zero (R69), so the decoder does not turn the word away. -/
theorem decodeMcc_wordMcc (mk : BitVec 3 → Reg → Reg → Instr) (op : BitVec 5) (leg : BitVec 3)
    (d src : Reg) : decodeMcc mk (wordMcc op leg d src) = .ok (mk leg d src) := by
  have hzero4 : (wordMcc op leg d src).extractLsb' 4 1 = 0 := by
    ext i hi
    interval_cases i; simp [wordMcc, put]
  have hzero0 : (wordMcc op leg d src).extractLsb' 0 1 = 0 := by
    ext i hi
    interval_cases i; simp [wordMcc, put]
  simp [decodeMcc, hzero4, hzero0]

/-- Settles O1, format by format: each field of the word reads back as it was put (the laws of
Laws/Encoding.lean), and the opcode leads the decoder to the instruction's arm. -/
theorem decodeReadsWhatEncodeWrites : Obligations.DecodeReadsWhatEncodeWrites := by
  intro i
  cases i with
  | int _ | irt _ | hlt _ | hcf _ => -- L_IMM, group 01
    simp [encode, decode, decodeGroup01, immL, immOfField_fieldOfImm]
  | pxr _ _ | pxw _ _ => -- L_REGIMM, group 01
    simp [encode, decode, decodeGroup01, imm5, immOfField_fieldOfImm]
  | pop _ _ | psh _ _ | calReg _ _ | jmpReg _ _ | nop _ => -- L_REGIMM and L_IMM, group 15
    simp [encode, decode, decodeGroup15]
  | ret _ => -- L_RET
    simp [encode, decode, decodeGroup15, decodeRet_wordRet]
  | calImm _ | jmpImm _ | jcu _ _ | jcs _ _ => -- S_LIMM and S_JCC
    simp [encode, decode]
  | mcu _ _ _ | mcs _ _ _ => -- S_MCC
    simp [encode, decode, decodeMcc_wordMcc]
  | prdReg _ _ | pwrReg _ _ | xrd _ _ | xwrReg _ _ | mrdReg _ _ | mwrReg _ _ | mroReg _ _
  | mwoReg _ _ | mulReg _ _ | cmpReg _ _ | divReg _ _ | tstReg _ _ | movReg _ _ | addReg _ _
  | subReg _ _ | notReg _ _ | andReg _ _ | orrReg _ _ | xorReg _ _ | shlReg _ _ | shrReg _ _ =>
    simp [encode, decode, decodeRegReg] -- S_REGREG
  | prdImm _ _ | pwrImm _ _ | xwrImm _ _ | mrdImm _ _ | mwrImm _ _ | mroImm _ _ | mwoImm _ _
  | mulImm _ _ | cmpImm _ _ | divImm _ _ | tstImm _ _ | movImm _ _ | addImm _ _ | subImm _ _
  | notImm _ _ | andImm _ _ | orrImm _ _ | xorImm _ _ | shlImm _ _ | shrImm _ _ =>
    simp [encode, decode] -- S_REGIMM
  | programmable0 _ | programmable1 _ | programmable2 _ | programmable3 _ | programmable4 _
  | programmable5 _ | programmable6 _ | programmable7 _ | programmable8 _ | programmable9 _
  | programmableA _ | programmableB _ | programmableC _ | programmableD _ | programmableE _
  | programmableF _ =>
    simp [encode, decode, decodeProgrammable]

end Sys2Proof

namespace Sys2Proof

/-! ### Encoding what was decoded -/

/-- The eight bits of a long opcode are the short opcode and the sub-opcode (R62). -/
theorem toNat_longOpcode (w : Word) :
    (w.extractLsb' 8 8).toNat = (topField w).toNat * 8 + (subField w).toNat := by
  simp only [topField, subField, BitVec.extractLsb'_toNat, Nat.shiftRight_eq_div_pow]
  omega

/-- The opcode of a programmable slot is the upper half of its short opcode and its number (R80). -/
theorem toNat_slotOpcode (w : Word) :
    (w.extractLsb' 8 8).toNat = (topField w).toNat / 2 * 16 + (w.extractLsb' 8 4).toNat := by
  simp only [topField, BitVec.extractLsb'_toNat, Nat.shiftRight_eq_div_pow]
  omega

/-! A word is put together again from its opcode and the fields the decoder reads. -/

theorem wordL_of_opcode {w : Word} {op : BitVec 8} (h : (w.extractLsb' 8 8).toNat = op.toNat) :
    wordL op (low8Field w) = w := by
  rw [← BitVec.eq_of_toNat_eq h]
  ext i hi
  interval_cases i <;> simp [wordL, put, low8Field]

theorem wordLReg_of_opcode {w : Word} {op : BitVec 8} (h : (w.extractLsb' 8 8).toNat = op.toNat) :
    wordLReg op (regField w) (low5Field w) = w := by
  rw [← BitVec.eq_of_toNat_eq h]
  ext i hi
  interval_cases i <;> simp [wordLReg, put, regField, low5Field]

theorem wordRet_of_opcode {w : Word} {op : BitVec 8} (h : (w.extractLsb' 8 8).toNat = op.toNat)
    (hzero : w.extractLsb' 0 4 = 0) : wordRet op (w.extractLsb' 4 4) = w := by
  have hfields : wordRet (w.extractLsb' 8 8) (w.extractLsb' 4 4) ||| put (w.extractLsb' 0 4) 0 = w := by
    ext i hi
    interval_cases i <;> simp [wordRet, put]
  rw [← BitVec.eq_of_toNat_eq h]
  simpa [hzero, put] using hfields

theorem wordLImm_of_top {w : Word} {op : BitVec 5} (h : (topField w).toNat = op.toNat) :
    wordLImm op (imm11 w) = w := by
  rw [← BitVec.eq_of_toNat_eq h, wordLImm, imm11, fieldOfImm_immOfField]
  ext i hi
  interval_cases i <;> simp [topField, put]

theorem wordJcc_of_top {w : Word} {op : BitVec 5} (h : (topField w).toNat = op.toNat) :
    wordJcc op (legField w) (immJ w) = w := by
  rw [← BitVec.eq_of_toNat_eq h, wordJcc, immJ, fieldOfImm_immOfField]
  ext i hi
  interval_cases i <;> simp [topField, legField, put]

theorem wordMcc_of_top {w : Word} {op : BitVec 5} (h : (topField w).toNat = op.toNat)
    (hzero : w.extractLsb' 4 1 = 0 ∧ w.extractLsb' 0 1 = 0) :
    wordMcc op (legField w) (regField w) (subField w) = w := by
  have hfields : wordMcc (topField w) (legField w) (regField w) (subField w) |||
      put (w.extractLsb' 4 1) 4 ||| put (w.extractLsb' 0 1) 0 = w := by
    ext i hi
    interval_cases i <;> simp [wordMcc, topField, legField, regField, subField, put]
  rw [← BitVec.eq_of_toNat_eq h]
  simpa [hzero, put] using hfields

theorem wordRegImm_of_top {w : Word} {op : BitVec 5} (h : (topField w).toNat = op.toNat) :
    wordRegImm op (regField w) (immS w) = w := by
  rw [← BitVec.eq_of_toNat_eq h, wordRegImm, immS, fieldOfImm_immOfField]
  ext i hi
  interval_cases i <;> simp [topField, regField, subField, low5Field, put]

theorem wordRegReg_of_top_low {w : Word} {op : BitVec 5} (htop : (topField w).toNat = 0)
    (hlow : (low5Field w).toNat = op.toNat) : wordRegReg op (regField w) (subField w) = w := by
  have hfields : put (topField w) 11 ||| wordRegReg (low5Field w) (regField w) (subField w) = w := by
    ext i hi
    interval_cases i <;> simp [wordRegReg, topField, regField, subField, low5Field, put]
  rw [← BitVec.eq_of_toNat_eq hlow]
  simpa [BitVec.eq_of_toNat_eq (y := 0#5) htop, put] using hfields

/-! Each group of the decoder drops no bit of the word. -/

theorem encode_of_decodeRegReg {w : Word} {i : Instr} (htop : (topField w).toNat = 0)
    (h : decodeRegReg w = .ok i) : encode i = w := by
  unfold decodeRegReg at h
  split at h <;> cases h <;> exact wordRegReg_of_top_low htop ‹_›

theorem encode_of_decodeGroup01 {w : Word} {i : Instr} (htop : (topField w).toNat = 1)
    (h : decodeGroup01 w = .ok i) : encode i = w := by
  have hop := toNat_longOpcode w
  unfold decodeGroup01 at h
  split at h <;> cases h <;> rw [htop, ‹(subField w).toNat = _›] at hop
  case h_1 =>
    rw [encode, immL, fieldOfImm_immOfField]
    exact wordL_of_opcode hop
  case h_2 | h_3 | h_4 => exact wordL_of_opcode hop
  case h_5 | h_6 =>
    rw [encode, imm5, fieldOfImm_immOfField]
    exact wordLReg_of_opcode hop

theorem encode_of_decodeGroup15 {w : Word} {i : Instr} (htop : (topField w).toNat = 0x15)
    (h : decodeGroup15 w = .ok i) : encode i = w := by
  have hop := toNat_longOpcode w
  unfold decodeGroup15 at h
  split at h
  case h_1 hsub | h_2 hsub | h_3 hsub | h_4 hsub =>
    cases h
    exact wordLReg_of_opcode (by rw [hop, htop, hsub]; rfl)
  case h_5 hsub =>
    unfold decodeRet at h
    split_ifs at h with hzero
    cases h
    exact wordRet_of_opcode (by rw [hop, htop, hsub]; rfl) hzero
  case h_6 hsub =>
    cases h
    exact wordL_of_opcode (by rw [hop, htop, hsub]; rfl)
  case h_7 => cases h

theorem encode_of_decodeMcc {mk : BitVec 3 → Reg → Reg → Instr} {op : BitVec 5} {w : Word} {i : Instr}
    (htop : (topField w).toNat = op.toNat)
    (hmk : ∀ leg d src, encode (mk leg d src) = wordMcc op leg d src)
    (h : decodeMcc mk w = .ok i) : encode i = w := by
  unfold decodeMcc at h
  split_ifs at h with hzero
  cases h
  rw [hmk]
  exact wordMcc_of_top htop hzero

theorem encode_of_decodeProgrammable {w : Word} {i : Instr} (htop : (topField w).toNat / 2 = 3)
    (h : decodeProgrammable w = .ok i) : encode i = w := by
  have hop := toNat_slotOpcode w
  have hslot := (w.extractLsb' 8 4).isLt
  rw [htop] at hop
  unfold decodeProgrammable at h
  split at h <;> cases h <;> refine wordL_of_opcode (hop.trans ?_)
  case h_16 =>
    simp only [imp_false] at *
    rw [show (w.extractLsb' 8 4).toNat = 15 by omega]
    rfl
  all_goals
    rw [‹(w.extractLsb' 8 4).toNat = _›]
    rfl

/-- Settles O2. -/
theorem encodeRestoresTheDecodedWord : Obligations.EncodeRestoresTheDecodedWord := by
  intro w i h
  have htop5 := (topField w).isLt
  unfold decode at h
  split at h
  case h_1 htop => exact encode_of_decodeRegReg htop h
  case h_2 htop => exact encode_of_decodeGroup01 htop h
  case h_3 htop | h_4 htop =>
    cases h
    exact wordLImm_of_top htop
  case h_5 htop | h_6 htop =>
    cases h
    exact wordJcc_of_top htop
  case h_7 htop | h_8 htop => exact encode_of_decodeProgrammable (by rw [htop]) h
  case h_11 => cases h
  case h_22 htop => exact encode_of_decodeGroup15 htop h
  case h_23 htop => exact encode_of_decodeMcc (op := 0x16) htop (fun _ _ _ => rfl) h
  case h_24 htop => exact encode_of_decodeMcc (op := 0x17) htop (fun _ _ _ => rfl) h
  case h_32 =>
    cases h
    simp only [imp_false] at *
    exact wordRegImm_of_top (show (topField w).toNat = 31 by omega)
  all_goals
    cases h
    exact wordRegImm_of_top ‹_›

end Sys2Proof

namespace Sys2Proof

/-! ### Rows of the opcode table (R76) -/

/-- The encoder keeps to the opcode table, format by format. -/
theorem encode_and_mask (i : Instr) : encode i &&& (tableRow i).mask = (tableRow i).fixed := by
  cases i with
  | int _ | irt _ | hlt _ | hcf _ | nop _ | programmable0 _ | programmable1 _ | programmable2 _
  | programmable3 _ | programmable4 _ | programmable5 _ | programmable6 _ | programmable7 _
  | programmable8 _ | programmable9 _ | programmableA _ | programmableB _ | programmableC _
  | programmableD _ | programmableE _ | programmableF _ => exact wordL_row ..
  | pxr _ _ | pxw _ _ | pop _ _ | psh _ _ | calReg _ _ | jmpReg _ _ => exact wordLReg_row ..
  | ret _ => exact wordRet_row ..
  | calImm _ | jmpImm _ => exact wordLImm_row ..
  | jcu _ _ | jcs _ _ => exact wordJcc_row ..
  | mcu _ _ _ | mcs _ _ _ => exact wordMcc_row ..
  | prdReg _ _ | pwrReg _ _ | xrd _ _ | xwrReg _ _ | mrdReg _ _ | mwrReg _ _ | mroReg _ _
  | mwoReg _ _ | mulReg _ _ | cmpReg _ _ | divReg _ _ | tstReg _ _ | movReg _ _ | addReg _ _
  | subReg _ _ | notReg _ _ | andReg _ _ | orrReg _ _ | xorReg _ _ | shlReg _ _ | shrReg _ _ =>
    exact wordRegReg_row ..
  | prdImm _ _ | pwrImm _ _ | xwrImm _ _ | mrdImm _ _ | mwrImm _ _ | mroImm _ _ | mwoImm _ _
  | mulImm _ _ | cmpImm _ _ | divImm _ _ | tstImm _ _ | movImm _ _ | addImm _ _ | subImm _ _
  | notImm _ _ | andImm _ _ | orrImm _ _ | xorImm _ _ | shlImm _ _ | shrImm _ _ =>
    exact wordRegImm_row ..

/-- Bits that the mask of a row covers are the row's fixed bits. -/
theorem extractLsb'_of_row {w mask fixed : Word} (h : w &&& mask = fixed) (lo len : Nat)
    (hcovered : mask.extractLsb' lo len = BitVec.allOnes len := by simp [tableRow]) :
    w.extractLsb' lo len = fixed.extractLsb' lo len := by
  rw [← h, BitVec.extractLsb'_and, hcovered, BitVec.and_allOnes]

theorem topField_of_row {w : Word} {i : Instr} (h : w &&& (tableRow i).mask = (tableRow i).fixed) :
    topField w = (tableRow i).fixed.extractLsb' 11 5 :=
  extractLsb'_of_row h 11 5 (by cases i <;> simp [tableRow])

theorem toNat_low5Field_of_row {w fixed : Word} (h : w &&& 0xF81F#16 = fixed) :
    (low5Field w).toNat = fixed.toNat % 32 := by
  rw [low5Field, extractLsb'_of_row h 0 5]
  simp

theorem decodeRet_of_zero {w : Word} (h : w.extractLsb' 0 4 = 0) :
    decodeRet w = .ok (.ret (w.extractLsb' 4 4)) := if_pos h

theorem decodeMcc_of_zero {w : Word} (mk : BitVec 3 → Reg → Reg → Instr)
    (h4 : w.extractLsb' 4 1 = 0) (h0 : w.extractLsb' 0 1 = 0) :
    decodeMcc mk w = .ok (mk (legField w) (regField w) (subField w)) := if_pos ⟨h4, h0⟩

/-- A word with the fixed bits of a row decodes to an instruction of that row: the fixed bits give the
opcode fields, and those lead the decoder to an arm of the row. -/
theorem decode_of_row {w : Word} {i : Instr} (h : w &&& (tableRow i).mask = (tableRow i).fixed) :
    (decode w).map tableRow = .ok (tableRow i) := by
  have htop := topField_of_row h
  cases i with
  | int _ | irt _ | hlt _ | hcf _ | pxr _ _ | pxw _ _ =>
    have hsub : subField w = _ := extractLsb'_of_row h 8 3
    simp [decode, decodeGroup01, htop, hsub, tableRow, Except.map]
  | pop _ _ | psh _ _ | calReg _ _ | jmpReg _ _ | nop _ =>
    have hsub : subField w = _ := extractLsb'_of_row h 8 3
    simp [decode, decodeGroup15, htop, hsub, tableRow, Except.map]
  | ret _ =>
    have hsub : subField w = _ := extractLsb'_of_row h 8 3
    have hret := decodeRet_of_zero (extractLsb'_of_row (mask := 0xFF0F#16) (fixed := 0xAC00#16) h 0 4)
    simp [decode, decodeGroup15, htop, hsub, hret, tableRow, Except.map]
  | mcu _ _ _ =>
    have hmcc := decodeMcc_of_zero .mcu
      (extractLsb'_of_row (mask := 0xF811#16) (fixed := 0xB000#16) h 4 1)
      (extractLsb'_of_row (mask := 0xF811#16) (fixed := 0xB000#16) h 0 1)
    simp [decode, hmcc, htop, tableRow, Except.map]
  | mcs _ _ _ =>
    have hmcc := decodeMcc_of_zero .mcs
      (extractLsb'_of_row (mask := 0xF811#16) (fixed := 0xB800#16) h 4 1)
      (extractLsb'_of_row (mask := 0xF811#16) (fixed := 0xB800#16) h 0 1)
    simp [decode, hmcc, htop, tableRow, Except.map]
  | prdReg _ _ | pwrReg _ _ | xrd _ _ | xwrReg _ _ | mrdReg _ _ | mwrReg _ _ | mroReg _ _
  | mwoReg _ _ | mulReg _ _ | cmpReg _ _ | divReg _ _ | tstReg _ _ | movReg _ _ | addReg _ _
  | subReg _ _ | notReg _ _ | andReg _ _ | orrReg _ _ | xorReg _ _ | shlReg _ _ | shrReg _ _ =>
    have hlow := toNat_low5Field_of_row h
    simp [decode, decodeRegReg, htop, hlow, tableRow, Except.map]
  | programmable0 _ | programmable1 _ | programmable2 _ | programmable3 _ | programmable4 _
  | programmable5 _ | programmable6 _ | programmable7 _ | programmable8 _ | programmable9 _
  | programmableA _ | programmableB _ | programmableC _ | programmableD _ | programmableE _
  | programmableF _ =>
    have hslot := extractLsb'_of_row h 8 4
    simp [decode, decodeProgrammable, htop, hslot, tableRow, Except.map]
  | calImm _ | jmpImm _ | jcu _ _ | jcs _ _ | prdImm _ _ | pwrImm _ _ | xwrImm _ _ | mrdImm _ _
  | mwrImm _ _ | mroImm _ _ | mwoImm _ _ | mulImm _ _ | cmpImm _ _ | divImm _ _ | tstImm _ _
  | movImm _ _ | addImm _ _ | subImm _ _ | notImm _ _ | andImm _ _ | orrImm _ _ | xorImm _ _
  | shlImm _ _ | shrImm _ _ =>
    simp [decode, htop, tableRow, Except.map]

/-- Settles O3: one way by the row's fixed bits, the other by encoding the instruction again. -/
theorem decodingFollowsTheOpcodeTable : Obligations.DecodingFollowsTheOpcodeTable := by
  intro w i
  constructor
  · intro h
    have hrow := decode_of_row h
    cases hd : decode w with
    | ok j => exact ⟨j, rfl, by simpa [hd, Except.map] using hrow⟩
    | error _ => simp [hd, Except.map] at hrow
  · rintro ⟨j, hd, hrow⟩
    have hw : encode j = w := encodeRestoresTheDecodedWord w j hd
    rw [← hrow, ← hw]
    exact encode_and_mask j

end Sys2Proof

namespace Sys2Proof

/-! ### Words that are no instruction (R77, R78) -/

/-- Settles O5. -/
theorem specWordsDecode : Obligations.SpecWordsDecode := by
  unfold Obligations.SpecWordsDecode
  decide

theorem toNat_topField (w : Word) : (topField w).toNat = w.toNat / 2048 := by
  have hlt := w.isLt
  simp only [topField, BitVec.extractLsb'_toNat, Nat.shiftRight_eq_div_pow]
  omega

theorem toNat_subField (w : Word) : (subField w).toNat = w.toNat / 256 % 8 := by
  simp [subField, Nat.shiftRight_eq_div_pow]

theorem toNat_low5Field (w : Word) : (low5Field w).toNat = w.toNat % 32 := by
  simp [low5Field]

/-- Opcodes without a register form (R77, first row). -/
theorem decodeRegReg_illegal (w : Word) : (∀ i, decodeRegReg w ≠ .ok i) ↔
    (low5Field w).toNat ≤ 0x07 ∨ (low5Field w).toNat = 0x15 ∨ (low5Field w).toNat = 0x16 ∨
      (low5Field w).toNat = 0x17 := by
  have hlt := (low5Field w).isLt
  generalize hlow : (low5Field w).toNat = low at hlt
  unfold decodeRegReg
  rw [hlow]
  interval_cases low <;> simp

/-- Long opcodes 0x0C and 0x0D (R77, second row). -/
theorem decodeGroup01_illegal (w : Word) : (∀ i, decodeGroup01 w ≠ .ok i) ↔
    (subField w).toNat = 0b100 ∨ (subField w).toNat = 0b101 := by
  have hlt := (subField w).isLt
  generalize hsub : (subField w).toNat = sub at hlt
  unfold decodeGroup01
  rw [hsub]
  interval_cases sub <;> simp

/-- RET with a bit set that must be zero (R78). -/
theorem decodeRet_illegal (w : Word) : (∀ i, decodeRet w ≠ .ok i) ↔ w.toNat % 16 ≠ 0 := by
  have hlow : w.extractLsb' 0 4 = 0 ↔ w.toNat % 16 = 0 := by
    simp [← BitVec.toNat_inj]
  unfold decodeRet
  split_ifs with hzero <;> simp_all

/-- Long opcodes 0xAD and 0xAE (R77, third row), and RET where a bit is set that must be zero. -/
theorem decodeGroup15_illegal (w : Word) : (∀ i, decodeGroup15 w ≠ .ok i) ↔
    (subField w).toNat = 0b101 ∨ (subField w).toNat = 0b110 ∨
      ((subField w).toNat = 0b100 ∧ w.toNat % 16 ≠ 0) := by
  have hlt := (subField w).isLt
  have hret := decodeRet_illegal w
  generalize hsub : (subField w).toNat = sub at hlt
  unfold decodeGroup15
  rw [hsub]
  interval_cases sub <;> simp [hret]

/-- MCU and MCS with a bit set that must be zero (R78). -/
theorem decodeMcc_illegal (mk : BitVec 3 → Reg → Reg → Instr) (w : Word) :
    (∀ i, decodeMcc mk w ≠ .ok i) ↔ w.getLsbD 4 = true ∨ w.getLsbD 0 = true := by
  have hbit : ∀ k, w.extractLsb' k 1 = 0 ↔ w.getLsbD k = false := fun k => by
    constructor
    · intro h
      simpa using congrArg (BitVec.getLsbD · 0) h
    · intro h
      ext i hi
      interval_cases i
      simpa using h
  unfold decodeMcc
  simp only [hbit]
  cases w.getLsbD 4 <;> cases w.getLsbD 0 <;> simp

theorem decodeProgrammable_legal (w : Word) : ∃ i, decodeProgrammable w = .ok i := by
  unfold decodeProgrammable
  split <;> exact ⟨_, rfl⟩

/-- Settles O4: the decoder's groups refuse the words of their own rows, and of the other short opcodes
only 0x0A has no instruction. -/
theorem wordsThatAreNoInstruction : Obligations.WordsThatAreNoInstruction := by
  intro w top sub low
  have hlt : top < 32 := Nat.div_lt_of_lt_mul w.isLt
  have htop : (topField w).toNat = top := toNat_topField w
  have hregreg := decodeRegReg_illegal w
  have h01 := decodeGroup01_illegal w
  have h15 := decodeGroup15_illegal w
  have hprog : ¬ ∀ i, decodeProgrammable w ≠ .ok i := by simpa using decodeProgrammable_legal w
  rw [toNat_low5Field] at hregreg
  rw [toNat_subField] at h01 h15
  clear_value top
  unfold decode
  rw [htop]
  split
  case h_1 => simpa using hregreg
  case h_2 => simpa using h01
  case h_7 | h_8 => simpa using hprog
  case h_22 => simpa [or_assoc] using h15
  case h_23 | h_24 => simpa using decodeMcc_illegal _ w
  case h_32 =>
    simp only [imp_false] at *
    have hlast : top = 31 := by omega
    simp [hlast]
  all_goals simp

end Sys2Proof

/-! PROOFS. What the shared operations do, in the words of the statements: the frames of Safety.lean, the
two forms of an operand, and the outcome of raising an interrupt. -/

namespace Sys2Proof.Machine

/-! ### Frames -/

/-- A state that differs in program-visible fields and memory alone has the same privileged and hidden
state. -/
theorem systemKept_update (s : State) (regs : Vector Word 8) (ip ui lr sp offset : Word) (fl : FlagBits)
    (f1 f2 : Word) (mem : Memory) (replaced : List (PAddr × Word)) (answers : List Word)
    (trace : List PortEvent) (n : Nat) :
    SystemKept s
      { s with
        regs := regs, ip := ip, ui := ui, lr := lr, sp := sp, offset := offset, fl := fl, f1 := f1
        f2 := f2, mem := mem, replaced := replaced, portAnswers := answers, portTrace := trace
        fresh := n } where
  px := ⟨rfl, rfl, rfl, rfl, rfl, rfl, rfl⟩
  paging := ⟨rfl, rfl, rfl⟩
  ie := rfl
  savedFl := rfl
  savedUi := rfl
  activePriv := rfl
  run := rfl
  pending := rfl
  params := rfl

/-- Registers, IP, flags, UI and the counter of free values are no part of `OthersKept`. -/
theorem othersKept_update (s : State) (regs : Vector Word 8) (ip ui : Word) (fl : FlagBits) (n : Nat) :
    OthersKept s { s with regs := regs, ip := ip, ui := ui, fl := fl, fresh := n } where
  specials := ⟨rfl, rfl, rfl, rfl, rfl⟩
  system := systemKept_update ..
  env := ⟨rfl, rfl, rfl⟩
  memory := ⟨fun _ => rfl, rfl⟩

theorem writesResult_update (s : State) (d : Reg) (r : Word) (fl : FlagBits) (n : Nat) :
    WritesResult s { s.setReg d r with ui := 0, fl := fl, fresh := n } d r where
  result := State.reg_setReg_same s d r
  regs := fun j hj => State.reg_setReg_other s d j r hj
  ip := rfl
  ui := rfl
  others := othersKept_update ..

theorem writesNoRegister_update (s : State) (fl : FlagBits) (n : Nat) :
    WritesNoRegister s { s with ui := 0, fl := fl, fresh := n } where
  regs := fun _ => rfl
  ip := rfl
  ui := rfl
  others := othersKept_update ..

/-! ### Raising an interrupt -/

/-- Interrupt entry as the statements see it. They speak of `pending` apart, and not of the counter of free
values. -/
theorem enters_enter_update (s : State) (p : List Request) (n : Nat) (r : Request) :
    Enters s (State.enter { s with pending := p, fresh := n } r) r.id r.info0 r.info1 r.info2 where
  savedFl := rfl
  savedUi := rfl
  ie := rfl
  activePriv := rfl
  px0 := rfl
  px10 := rfl
  px11 := rfl
  px12 := rfl
  px13 := rfl
  px14 := rfl
  ui := rfl
  run := rfl
  ip := rfl
  fl := rfl
  regs := fun _ => rfl
  specials := ⟨rfl, rfl, rfl, rfl, rfl⟩
  px1 := rfl
  paging := ⟨rfl, rfl, rfl⟩
  params := rfl
  env := ⟨rfl, rfl, rfl⟩
  memory := ⟨fun _ => rfl, rfl⟩

theorem enters_enter (s : State) (r : Request) :
    Enters s (s.enter r) r.id r.info0 r.info1 r.info2 := enters_enter_update s s.pending s.fresh r

theorem State.raise_enters {s : State} (h : s.ie = true) (id : BitVec 8) (i0 i1 i2 : Word) :
    ∃ t, s.raise id i0 i1 i2 = .next t ∧ Enters s t id i0 i1 i2 ∧ t.pending = s.pending :=
  ⟨_, State.raise_next.2 ⟨h, rfl⟩, enters_enter s _, rfl⟩

theorem State.raise_doubleFault {s : State} (h : s.ie = false) (id : BitVec 8) (i0 i1 i2 : Word) :
    s.raise id i0 i1 i2 = .fault (.doubleFault id) := by
  simp [State.raise, h]

theorem State.privileged_supervisor {s : State} (h : s.activePriv = 0) (w : Word) (k : Result) :
    s.privileged w k = k := if_pos h

theorem State.privileged_user {s : State} (h : s.activePriv ≠ 0) (w : Word) (k : Result) :
    s.privileged w k = s.raise 2 w 0 0 := if_neg h

theorem State.needs_present {s : State} {e : Extension} (h : s.has e = true) (w : Word) (k : Result) :
    s.needs e w k = k := if_pos h

theorem State.needs_absent {s : State} {e : Extension} (h : s.has e = false) (w : Word) (k : Result) :
    s.needs e w k = s.raise 6 w 0 0 := by
  simp [State.needs, h]

/-- Every privileged instruction begins with the privilege check (R82). -/
theorem exec_privileged {i : Instr} (h : Privileged i) (s : State) :
    ∃ k, exec i s = s.privileged (encode i) k := by
  cases h <;> exact ⟨_, rfl⟩

/-- Every instruction of an extension begins with the extension check (R81). -/
theorem exec_needs {e : Extension} {i : Instr} (h : NeedsExtension e i) (s : State) :
    ∃ k, exec i s = s.needs e (encode i) k := by
  cases h <;> exact ⟨_, rfl⟩

theorem exec_programmable {i : Instr} (h : Programmable i) (s : State) :
    exec i s = s.raise 6 (encode i) 0 0 := by
  cases h <;> rfl

/-! ### The ends of instructions -/

theorem signZero_packFlags (r : Word) (o c : Bool) : SignZero r (packFlags r.msb o c (r == 0)) := by
  simp [SignZero, BitVec.msb_eq_toInt]

theorem State.writeReg_writes (s : State) (d : Reg) (r : Word) :
    ∃ t, s.writeReg d r = .next t ∧ WritesResult s t d r ∧ t.fl = s.fl :=
  ⟨_, rfl, writesResult_update s d r s.fl s.fresh, rfl⟩

theorem State.writeSZ_writes (s : State) (d : Reg) (r : Word) :
    ∃ t, s.writeSZ d r = .next t ∧ WritesResult s t d r ∧ SignZero r t.fl :=
  ⟨_, rfl, writesResult_update s d r _ _, signZero_packFlags r _ _⟩

theorem State.testSZ_writes (s : State) (r : Word) :
    ∃ t, s.testSZ r = .next t ∧ WritesNoRegister s t ∧ SignZero r t.fl :=
  ⟨_, rfl, writesNoRegister_update s _ _, signZero_packFlags r _ _⟩

theorem State.writeFlags_writes (s : State) (d : Reg) (r : Word) (fl : FlagBits) :
    ∃ t, s.writeFlags d r fl = .next t ∧ WritesResult s t d r ∧ t.fl = fl :=
  ⟨_, rfl, writesResult_update s d r fl s.fresh, rfl⟩

theorem State.finish_writesNoRegister (s : State) (fl : FlagBits) :
    ∃ t, State.finish { s with fl := fl } = .next t ∧ WritesNoRegister s t ∧ t.fl = fl :=
  ⟨_, rfl, writesNoRegister_update s fl s.fresh, rfl⟩

/-! ### The two forms of an instruction are one operation on its second operand, or on its address -/

section Forms

variable {s : State} {i : Instr} {d src : Reg} {a b : Word}

theorem exec_prd (h : TwoOperand .prdReg .prdImm s i d b) :
    exec i s = s.privileged (encode i) (s.portRead d b) := by
  rcases h with ⟨src, rfl, rfl⟩ | ⟨v, rfl, rfl⟩ <;> rfl

theorem exec_pwr (h : AddressOperand .pwrReg .pwrImm s i a src) :
    exec i s = s.privileged (encode i) (s.portWrite a (s.reg src)) := by
  rcases h with ⟨d, rfl, rfl⟩ | ⟨v, rfl, rfl⟩ <;> rfl

theorem exec_xwr (h : TwoOperand .xwrReg .xwrImm s i d b) :
    exec i s = s.xregWrite d b (encode i) := by
  rcases h with ⟨src, rfl, rfl⟩ | ⟨v, rfl, rfl⟩ <;> rfl

theorem exec_mrd (h : TwoOperand .mrdReg .mrdImm s i d a) : exec i s = s.loadTo d a := by
  rcases h with ⟨src, rfl, rfl⟩ | ⟨v, rfl, rfl⟩ <;> rfl

theorem exec_mro (h : TwoOperand .mroReg .mroImm s i d a) :
    exec i s = s.needs .relative (encode i) (s.loadTo d (s.offset + a)) := by
  rcases h with ⟨src, rfl, rfl⟩ | ⟨v, rfl, rfl⟩ <;> rfl

theorem exec_mwr (h : AddressOperand .mwrReg .mwrImm s i a src) : exec i s = s.storeFrom a src := by
  rcases h with ⟨d, rfl, rfl⟩ | ⟨v, rfl, rfl⟩ <;> rfl

theorem exec_mwo (h : AddressOperand .mwoReg .mwoImm s i a src) :
    exec i s = s.needs .relative (encode i) (s.storeFrom (s.offset + a) src) := by
  rcases h with ⟨d, rfl, rfl⟩ | ⟨v, rfl, rfl⟩ <;> rfl

theorem exec_mul (h : TwoOperand .mulReg .mulImm s i d b) :
    exec i s = s.needs .multiply (encode i) (s.mulBy d b) := by
  rcases h with ⟨src, rfl, rfl⟩ | ⟨v, rfl, rfl⟩ <;> rfl

theorem exec_cmp (h : TwoOperand .cmpReg .cmpImm s i d b) : exec i s = s.compareWith d b := by
  rcases h with ⟨src, rfl, rfl⟩ | ⟨v, rfl, rfl⟩ <;> rfl

theorem exec_div (h : TwoOperand .divReg .divImm s i d b) :
    exec i s = s.needs .divide (encode i) (s.divBy d b) := by
  rcases h with ⟨src, rfl, rfl⟩ | ⟨v, rfl, rfl⟩ <;> rfl

theorem exec_tst (h : TwoOperand .tstReg .tstImm s i d b) : exec i s = s.testWith d b := by
  rcases h with ⟨src, rfl, rfl⟩ | ⟨v, rfl, rfl⟩ <;> rfl

theorem exec_mov (h : TwoOperand .movReg .movImm s i d b) : exec i s = s.writeReg d b := by
  rcases h with ⟨src, rfl, rfl⟩ | ⟨v, rfl, rfl⟩ <;> rfl

theorem exec_add (h : TwoOperand .addReg .addImm s i d b) : exec i s = s.addTo d b := by
  rcases h with ⟨src, rfl, rfl⟩ | ⟨v, rfl, rfl⟩ <;> rfl

theorem exec_sub (h : TwoOperand .subReg .subImm s i d b) : exec i s = s.subFrom d b := by
  rcases h with ⟨src, rfl, rfl⟩ | ⟨v, rfl, rfl⟩ <;> rfl

theorem exec_not (h : TwoOperand .notReg .notImm s i d b) : exec i s = s.notTo d b := by
  rcases h with ⟨src, rfl, rfl⟩ | ⟨v, rfl, rfl⟩ <;> rfl

theorem exec_and (h : TwoOperand .andReg .andImm s i d b) : exec i s = s.andTo d b := by
  rcases h with ⟨src, rfl, rfl⟩ | ⟨v, rfl, rfl⟩ <;> rfl

theorem exec_orr (h : TwoOperand .orrReg .orrImm s i d b) : exec i s = s.orrTo d b := by
  rcases h with ⟨src, rfl, rfl⟩ | ⟨v, rfl, rfl⟩ <;> rfl

theorem exec_xor (h : TwoOperand .xorReg .xorImm s i d b) : exec i s = s.xorTo d b := by
  rcases h with ⟨src, rfl, rfl⟩ | ⟨v, rfl, rfl⟩ <;> rfl

theorem exec_shl (h : TwoOperand .shlReg .shlImm s i d b) : exec i s = s.shlBy d b := by
  rcases h with ⟨src, rfl, rfl⟩ | ⟨v, rfl, rfl⟩ <;> rfl

theorem exec_shr (h : TwoOperand .shrReg .shrImm s i d b) : exec i s = s.shrBy d b := by
  rcases h with ⟨src, rfl, rfl⟩ | ⟨v, rfl, rfl⟩ <;> rfl

end Forms

/-! ### Interrupts that instructions raise (spec/30_encoding.md R81, R82; spec/60_exceptions.md) -/

/-- Settles O15. -/
theorem intEntersTheHandler : Obligations.IntEntersTheHandler :=
  fun _ imm hie => State.raise_enters hie imm 0 0 0

/-- Settles O18. -/
theorem privilegedInstructionsTrapInUserMode : Obligations.PrivilegedInstructionsTrapInUserMode := by
  intro s i hpriv huser hie
  obtain ⟨k, hk⟩ := exec_privileged hpriv s
  rw [hk, State.privileged_user huser]
  exact State.raise_enters hie ..

/-- Settles O19. -/
theorem missingExtensionRaisesInterruptSix : Obligations.MissingExtensionRaisesInterruptSix := by
  intro s e i hneeds habsent hie
  obtain ⟨k, hk⟩ := exec_needs hneeds s
  rw [hk, State.needs_absent habsent]
  exact State.raise_enters hie ..

/-- Settles O20. -/
theorem programmableSlotsRaiseInterruptSix : Obligations.ProgrammableSlotsRaiseInterruptSix := by
  intro s i hprog hie
  rw [exec_programmable hprog]
  exact State.raise_enters hie ..

/-- Settles O16: each of the five kinds comes down to the same raise, and IE = 0 makes it a fault. -/
theorem interruptWhileDisabledIsADoubleFault : Obligations.InterruptWhileDisabledIsADoubleFault := by
  intro s hie
  refine ⟨fun imm => State.raise_doubleFault hie .., fun i hpriv huser => ?_,
    fun e i hneeds habsent => ?_, fun i hprog => ?_, fun i d hdiv hpresent => ?_⟩
  · obtain ⟨k, hk⟩ := exec_privileged hpriv s
    rw [hk, State.privileged_user huser, State.raise_doubleFault hie]
  · obtain ⟨k, hk⟩ := exec_needs hneeds s
    rw [hk, State.needs_absent habsent, State.raise_doubleFault hie]
  · rw [exec_programmable hprog, State.raise_doubleFault hie]
  · rw [exec_div hdiv, State.needs_present hpresent]
    exact State.raise_doubleFault hie ..

end Sys2Proof.Machine

/-! PROOFS. Operands, arithmetic, logic, moves and conditions (spec/30_encoding.md R73, spec/41_control.md
R109 and R110, spec/44_arithmetic.md, spec/45_logic_shift.md, spec/46_cond_move.md). -/

namespace Sys2Proof.Machine

/-! ### The extended immediate -/

theorem getLsbD_extendImm {n : Nat} (s : State) (v : BitVec n) (k : Nat) (hk : k < 16) :
    (s.extendImm v).getLsbD k =
      if k < n then v.getLsbD k else s.f1.getLsbD 1 && v.getLsbD (n - 1) := by
  unfold State.extendImm State.signExtends
  cases s.f1.getLsbD 1 with
  | true =>
    simp only [if_true, BitVec.getLsbD_signExtend, BitVec.msb_eq_getLsbD_last, Bool.true_and]
    simp [hk]
  | false =>
    simp only [Bool.false_eq_true, if_false, BitVec.getLsbD_setWidth, Bool.false_and]
    split_ifs with hkn
    · simp [hk]
    · simp [BitVec.getLsbD_of_ge v k (Nat.le_of_not_lt hkn)]

/-- The low byte of UI, moved to bits 15:8. -/
theorem getLsbD_uiByte (ui : Word) (k : Nat) (hk : k < 16) :
    ((ui &&& 0x00FF#16) <<< 8).getLsbD k = (decide (8 ≤ k) && ui.getLsbD (k - 8)) := by
  by_cases h8 : 8 ≤ k
  · have hones : (0x00FF#16).getLsbD (k - 8) = true := by
      have hlow : k - 8 < 8 := by omega
      generalize k - 8 = j at hlow
      interval_cases j <;> rfl
    simp only [BitVec.getLsbD_shiftLeft, BitVec.getLsbD_and, hones]
    simp [hk, h8]
  · simp [h8, show k < 8 by omega]

/-- Settles O7. -/
theorem extendedImmediateBits : Obligations.ExtendedImmediateBits := by
  intro s n v k _ _ hk
  rw [State.immx, BitVec.getLsbD_or, getLsbD_extendImm s v k hk, getLsbD_uiByte s.ui k hk]

/-! ### Arithmetic -/

theorem carryIn_eq (s : State) :
    s.carryIn = if s.f1.getLsbD 0 && carryFlag s.fl then 1 else 0 := rfl

theorem outOfRange_iff (x : Int) : outOfRange x = true ↔ SignedOverflow x := by
  simp [outOfRange, SignedOverflow]

theorem addFlags_spec (a b : Word) (c : Nat) :
    SignZero (a + b + BitVec.ofNat 16 c) (addFlags a b c) ∧
    (carryFlag (addFlags a b c) = true ↔ 65535 < a.toNat + b.toNat + c) ∧
    (overflowFlag (addFlags a b c) = true ↔ SignedOverflow (a.toInt + b.toInt + c)) := by
  refine ⟨addResult_eq a b c ▸ signZero_packFlags .., ?_, ?_⟩
  · simp [addFlags]
  · simp [addFlags, outOfRange_iff]

theorem subFlags_spec (a b : Word) (c : Nat) :
    SignZero (a - b - BitVec.ofNat 16 c) (subFlags a b c) ∧
    (carryFlag (subFlags a b c) = true ↔ a.toNat < b.toNat + c) ∧
    (overflowFlag (subFlags a b c) = true ↔ SignedOverflow (a.toInt - b.toInt - c)) := by
  refine ⟨subResult_eq a b c ▸ signZero_packFlags .., ?_, ?_⟩
  · simp only [subFlags, carryFlag_packFlags, decide_eq_true_eq]
    omega
  · simp [subFlags, outOfRange_iff]

/-- Settles O45. -/
theorem addAndSubtract : Obligations.AddAndSubtract := by
  intro s i d b a c
  refine ⟨fun hadd => ?_, fun hsub => ?_⟩
  · obtain ⟨t, ht, hw, hfl⟩ :=
      s.writeFlags_writes d (addResult a b c) (addFlags a b c)
    refine ⟨t, (exec_add hadd).trans ht, addResult_eq a b c ▸ hw, ?_⟩
    rw [hfl]
    exact addFlags_spec a b c
  · obtain ⟨t, ht, hw, hfl⟩ :=
      s.writeFlags_writes d (subResult a b c) (subFlags a b c)
    refine ⟨t, (exec_sub hsub).trans ht, subResult_eq a b c ▸ hw, ?_⟩
    rw [hfl]
    exact subFlags_spec a b c

/-- Settles O46. -/
theorem compareAndTest : Obligations.CompareAndTest := by
  intro s i d b a c
  refine ⟨fun hcmp => ?_, fun htst => ?_⟩
  · obtain ⟨t, ht, hw, hfl⟩ := s.finish_writesNoRegister (subFlags a b c)
    refine ⟨t, (exec_cmp hcmp).trans ht, hw, ?_⟩
    rw [hfl]
    exact subFlags_spec a b c
  · rw [exec_tst htst]
    exact s.testSZ_writes (a &&& b)

theorem product_eq (a b : Word) : product a b = a * b := by
  apply BitVec.eq_of_toNat_eq
  simp [product, BitVec.toNat_mul]

/-- Settles O47. -/
theorem mulMultiplies : Obligations.MulMultiplies := by
  intro s i d b hmul hpresent
  rw [exec_mul hmul, State.needs_present hpresent, State.mulBy, product_eq]
  exact s.writeSZ_writes d _

theorem quotient_eq (signed : Bool) (a b : Word) :
    quotient signed a b = if signed then a.sdiv b else a.udiv b := by
  cases signed
  · apply BitVec.eq_of_toNat_eq
    have hlt : a.toNat / b.toNat < 2 ^ 16 := lt_of_le_of_lt (Nat.div_le_self _ _) a.isLt
    simpa [quotient] using Nat.mod_eq_of_lt hlt
  · apply BitVec.eq_of_toInt_eq
    simp [quotient, BitVec.toInt_sdiv]

/-- Settles O48. -/
theorem divDivides : Obligations.DivDivides := by
  intro s i d b hdiv hpresent q
  have hexec : exec i s = s.divBy d b := by rw [exec_div hdiv, State.needs_present hpresent]
  refine ⟨fun hb => ?_, fun hb hie => ?_⟩
  · rw [hexec, State.divBy, if_neg hb, quotient_eq]
    exact s.writeSZ_writes d q
  · rw [hexec, State.divBy, if_pos hb]
    exact State.raise_enters hie ..

/-! ### Logic and shifts -/

theorem writes_of_exec {s : State} {i : Instr} {d : Reg} {r : Word} (h : exec i s = s.writeSZ d r) :
    ∃ t, exec i s = .next t ∧ WritesResult s t d r ∧ SignZero r t.fl :=
  h ▸ s.writeSZ_writes d r

/-- Settles O49. -/
theorem logicInstructions : Obligations.LogicInstructions :=
  fun _ _ _ _ => ⟨fun h => writes_of_exec (exec_not h), fun h => writes_of_exec (exec_and h),
    fun h => writes_of_exec (exec_orr h), fun h => writes_of_exec (exec_xor h)⟩

theorem shiftLeft_eq (a b : Word) : shiftLeft a b = a <<< b.toNat := by
  unfold shiftLeft
  split_ifs with h
  · exact (BitVec.shiftLeft_eq_zero (by omega)).symm
  · apply BitVec.eq_of_toNat_eq
    simp [BitVec.toNat_shiftLeft, Nat.shiftLeft_eq]

theorem shiftRight_unsigned_eq (a b : Word) : shiftRight false a b = a >>> b.toNat := by
  have hlt : a.toNat / 2 ^ b.toNat < 2 ^ 16 := lt_of_le_of_lt (Nat.div_le_self _ _) a.isLt
  unfold shiftRight
  simp only [Bool.false_eq_true, if_false]
  split_ifs with h
  · exact (BitVec.ushiftRight_eq_zero (by omega)).symm
  · apply BitVec.eq_of_toNat_eq
    simpa [BitVec.toNat_ushiftRight, Nat.shiftRight_eq_div_pow] using Nat.mod_eq_of_lt hlt

/-- An arithmetic shift by more than 15 leaves copies of the sign bit. -/
theorem sshiftRight_of_gt (a : Word) {n : Nat} (h : 15 < n) :
    a.sshiftRight n = if a.msb then 0xFFFF else 0x0000 := by
  apply BitVec.eq_of_getLsbD_eq
  intro k hk
  have hones : BitVec.getLsbD (0xFFFF : Word) k = true := by interval_cases k <;> rfl
  rw [BitVec.getLsbD_sshiftRight, if_neg (by omega)]
  cases a.msb with
  | true => rw [if_pos rfl, hones]; simp [hk]
  | false => simp [hk]

theorem shiftRight_signed_eq (a b : Word) : shiftRight true a b = a.sshiftRight b.toNat := by
  unfold shiftRight
  simp only [if_true]
  split_ifs with h hsign
  · rw [sshiftRight_of_gt a h, BitVec.msb_eq_getLsbD_last, hsign]
    rfl
  · rw [sshiftRight_of_gt a h, BitVec.msb_eq_getLsbD_last, eq_false_of_ne_true hsign]
    rfl
  · rw [BitVec.sshiftRight, Int.shiftRight_eq_div_pow]
    norm_cast

/-- Settles O50. -/
theorem shiftInstructions : Obligations.ShiftInstructions := by
  intro s i d b writes
  refine ⟨fun h => ?_, fun h => ?_⟩
  · rw [← shiftLeft_eq]
    exact writes_of_exec (exec_shl h)
  · have hresult : shiftRight s.signedArithmetic (s.reg d) b =
        if s.f1.getLsbD 2 then (s.reg d).sshiftRight b.toNat else s.reg d >>> b.toNat := by
      unfold State.signedArithmetic
      cases s.f1.getLsbD 2
      · exact shiftRight_unsigned_eq ..
      · exact shiftRight_signed_eq ..
    rw [← hresult]
    exact writes_of_exec (exec_shr h)

/-! ### Moves -/

theorem exec_mcu (leg : BitVec 3) (d src : Reg) (s : State) :
    exec (.mcu leg d src) s =
      s.needs .conditionalMove (encode (.mcu leg d src)) (s.moveIf (condU leg s.fl) d src) := rfl

theorem exec_mcs (leg : BitVec 3) (d src : Reg) (s : State) :
    exec (.mcs leg d src) s =
      s.needs .conditionalMove (encode (.mcs leg d src)) (s.moveIf (condS leg s.fl) d src) := rfl

/-- Settles O51. -/
theorem moveInstructions : Obligations.MoveInstructions := by
  refine ⟨fun s i d b h => exec_mov h ▸ s.writeReg_writes d b, ?_⟩
  intro s i leg d src hpresent
  refine ⟨?_, ?_⟩
  · rintro (⟨rfl, hcond⟩ | ⟨rfl, hcond⟩)
    · rw [exec_mcu, State.needs_present hpresent, hcond]
      exact s.writeReg_writes d _
    · rw [exec_mcs, State.needs_present hpresent, hcond]
      exact s.writeReg_writes d _
  · rintro (⟨rfl, hcond⟩ | ⟨rfl, hcond⟩)
    · rw [exec_mcu, State.needs_present hpresent, hcond]
      exact s.finish_writesNoRegister s.fl
    · rw [exec_mcs, State.needs_present hpresent, hcond]
      exact s.finish_writesNoRegister s.fl

/-! ### Multi-word addition -/

theorem toNat_append_word (hi lo : Word) :
    (hi ++ lo : BitVec 32).toNat = hi.toNat * 65536 + lo.toNat := by
  rw [BitVec.toNat_append, ← Nat.shiftLeft_add_eq_or_of_lt lo.isLt, Nat.shiftLeft_eq]

/-- The low halves' carry, added to the high halves, makes the sum of the whole numbers. -/
theorem append_add_append (hi lo hi' lo' : Word) :
    addResult hi hi' (if 65535 < lo.toNat + lo'.toNat then 1 else 0) ++ (lo + lo') =
      (hi ++ lo : BitVec 32) + (hi' ++ lo' : BitVec 32) := by
  apply BitVec.eq_of_toNat_eq
  have hlo := lo.isLt
  have hlo' := lo'.isLt
  simp only [BitVec.toNat_add, toNat_append_word, addResult, BitVec.toNat_ofNat]
  split_ifs with hcarry <;> omega

/-- The registers and flags after ADD d, s. -/
theorem addReg_next {s t : State} {d src : Reg} (h : exec (.addReg d src) s = .next t) :
    t.reg d = addResult (s.reg d) (s.reg src) s.carryIn ∧ RegsKeptBut d s t ∧
    t.fl = addFlags (s.reg d) (s.reg src) s.carryIn := by
  obtain ⟨t', ht', hw, hfl⟩ := s.writeFlags_writes d (addResult (s.reg d) (s.reg src) s.carryIn)
    (addFlags (s.reg d) (s.reg src) s.carryIn)
  have htt : t' = t := Host.Outcome.next.inj (ht'.symm.trans h)
  exact htt ▸ ⟨hw.result, hw.regs, hfl⟩

/-- Settles O52: the second ADD's carry in is the first one's carry out, and the two work on the registers
as they were. -/
theorem bigIntAdditionAddsTwoWords : Obligations.BigIntAdditionAddsTwoWords := by
  intro s t u lo hi lo' hi' hne hne' hbig hfirst hsecond
  obtain ⟨hlo, hkept, hfl⟩ := addReg_next hfirst
  obtain ⟨hhi, hkept', -⟩ := addReg_next hsecond
  rw [State.carryIn_off hbig] at hlo hfl
  have hin : State.carryIn { t with f1 := t.f1 ||| 1 } =
      if 65535 < (s.reg lo).toNat + (s.reg lo').toNat then 1 else 0 := by
    simp [carryIn_eq, hfl, addFlags]
  have hulo : u.reg lo = s.reg lo + s.reg lo' := by
    rw [hkept' lo hne]
    exact hlo.trans (by simp [addResult_eq])
  have huhi : u.reg hi = addResult (s.reg hi) (s.reg hi')
      (if 65535 < (s.reg lo).toNat + (s.reg lo').toNat then 1 else 0) := by
    rw [hhi, hin, ← hkept hi hne.symm, ← hkept hi' hne']
    rfl
  rw [huhi, hulo, append_add_append]

/-! ### Conditions -/

/-- FL after CMP outside big-int mode. -/
theorem cmp_fl {s t : State} {i : Instr} {d : Reg} {b : Word} (h : TwoOperand .cmpReg .cmpImm s i d b)
    (hbig : s.f1.getLsbD 0 = false) (hnext : exec i s = .next t) :
    t.fl = subFlags (s.reg d) b 0 := by
  rw [exec_cmp h, State.compareWith, State.finish_next, State.carryIn_off hbig] at hnext
  rw [hnext]

theorem zeroFlag_subFlags (a b : Word) : zeroFlag (subFlags a b 0) = true ↔ a = b := by
  rw [((subFlags_spec a b 0).1).2]
  simp only [BitVec.ofNat_eq_ofNat, BitVec.sub_zero]
  exact sub_eq_zero

theorem carryFlag_subFlags (a b : Word) : carryFlag (subFlags a b 0) = true ↔ a.toNat < b.toNat :=
  (subFlags_spec a b 0).2.1

/-- S and O differ after a subtraction exactly where the exact difference is negative. -/
theorem signFlag_eq_overflowFlag_subFlags (a b : Word) :
    signFlag (subFlags a b 0) = overflowFlag (subFlags a b 0) ↔ b.toInt ≤ a.toInt := by
  obtain ⟨⟨hsign, -⟩, -, hover⟩ := subFlags_spec a b 0
  have hdiff : (a - b - BitVec.ofNat 16 0).toInt = (a.toInt - b.toInt).bmod 65536 := by
    simp [BitVec.toInt_sub]
  have hle := BitVec.toInt_le (x := a)
  have hge := BitVec.le_toInt (x := a)
  have hle' := BitVec.toInt_le (x := b)
  have hge' := BitVec.le_toInt (x := b)
  rw [hdiff, Int.bmod] at hsign
  rw [Bool.eq_iff_iff, hsign, hover, SignedOverflow]
  omega

theorem condU_rows (fl : FlagBits) :
    condU 0b001 fl = (!carryFlag fl && !zeroFlag fl) ∧ condU 0b010 fl = !zeroFlag fl ∧
    condU 0b011 fl = !carryFlag fl ∧ condU 0b100 fl = carryFlag fl ∧ condU 0b101 fl = zeroFlag fl ∧
    condU 0b110 fl = (carryFlag fl || zeroFlag fl) := ⟨rfl, rfl, rfl, rfl, rfl, rfl⟩

theorem condS_rows (fl : FlagBits) :
    condS 0b001 fl = ((signFlag fl == overflowFlag fl) && !zeroFlag fl) ∧
    condS 0b010 fl = !zeroFlag fl ∧ condS 0b011 fl = (signFlag fl == overflowFlag fl) ∧
    condS 0b100 fl = (signFlag fl != overflowFlag fl) ∧ condS 0b101 fl = zeroFlag fl ∧
    condS 0b110 fl = ((signFlag fl != overflowFlag fl) || zeroFlag fl) :=
  ⟨rfl, rfl, rfl, rfl, rfl, rfl⟩

/-- Settles O31. -/
theorem unsignedConditionTable : Obligations.UnsignedConditionTable := by
  refine ⟨fun fl => ?_, fun s t i d b hcmp hbig hnext => ?_⟩
  · obtain ⟨h1, h2, h3, h4, h5, h6⟩ := condU_rows fl
    exact ⟨rfl, by rw [h1]; simp, by rw [h2]; simp, by rw [h3]; simp, by rw [h4], by rw [h5],
      by rw [h6]; simp, rfl⟩
  · have hcarry := carryFlag_subFlags (s.reg d) b
    have hzero := zeroFlag_subFlags (s.reg d) b
    have heq : s.reg d = b ↔ (s.reg d).toNat = b.toNat := BitVec.toNat_inj.symm
    rw [cmp_fl hcmp hbig hnext]
    obtain ⟨h1, h2, h3, h4, h5, h6⟩ := condU_rows (subFlags (s.reg d) b 0)
    rw [h1, h2, h3, h4, h5, h6]
    simp only [Bool.and_eq_true, Bool.or_eq_true, Bool.not_eq_true',
      ← Bool.not_eq_true, ne_eq, hcarry, hzero, heq, true_and]
    omega

/-- Settles O32. -/
theorem signedConditionTable : Obligations.SignedConditionTable := by
  refine ⟨fun fl => ?_, fun s t i d b hcmp hbig hnext => ?_⟩
  · obtain ⟨h1, h2, h3, h4, h5, h6⟩ := condS_rows fl
    exact ⟨rfl, by rw [h1]; simp, by rw [h2]; simp, by rw [h3]; simp, by rw [h4]; simp, by rw [h5],
      by rw [h6]; simp, rfl⟩
  · have hsign := signFlag_eq_overflowFlag_subFlags (s.reg d) b
    have hzero := zeroFlag_subFlags (s.reg d) b
    have heq : s.reg d = b ↔ (s.reg d).toInt = b.toInt := BitVec.toInt_inj.symm
    rw [cmp_fl hcmp hbig hnext]
    obtain ⟨h1, h2, h3, h4, h5, h6⟩ := condS_rows (subFlags (s.reg d) b 0)
    rw [h1, h2, h3, h4, h5, h6]
    simp only [Bool.and_eq_true, Bool.or_eq_true, Bool.not_eq_true',
      ← Bool.not_eq_true, beq_iff_eq, bne_iff_ne, ne_eq, hsign, hzero, heq, true_and]
    omega

end Sys2Proof.Machine

/-! PROOFS. Control transfer, the system instructions, ports and external registers (spec/40_system.md,
spec/41_control.md, spec/42_ports_xregs.md). -/

namespace Sys2Proof.Machine

/-! ### Control transfer -/

/-- Settles O25. -/
theorem jmpAndCalImmediate : Obligations.JmpAndCalImmediate :=
  fun _ _ => ⟨State.finish_jumpBy_next.2 rfl, State.callBy_next.2 rfl⟩

theorem State.jumpIf_eq (s : State) (cond : Bool) (off : Word) :
    s.jumpIf cond off = .next { s with ip := if cond then s.ip + off else s.ip, ui := 0 } := by
  cases cond <;> rfl

/-- Settles O28. -/
theorem conditionalJumps : Obligations.ConditionalJumps :=
  fun s _ _ => ⟨s.jumpIf_eq _ _, s.jumpIf_eq _ _⟩

/-- Settles O29. -/
theorem retReturns : Obligations.RetReturns :=
  fun _ _ => State.finish_next.2 rfl

/-! ### System instructions -/

/-- Settles O17. -/
theorem irtReturns : Obligations.IrtReturns :=
  fun _ _ hsup => State.privileged_supervisor hsup _ _

/-- Settles O21. -/
theorem hltWaitsAndHcfStops : Obligations.HltWaitsAndHcfStops :=
  fun _ _ hsup => ⟨State.privileged_supervisor hsup _ _, State.privileged_supervisor hsup _ _⟩

theorem exec_pxr_some {s : State} {d : Reg} {num : BitVec 5} {v : Word} (hsup : s.activePriv = 0)
    (hv : s.pxValue num = some v) : exec (.pxr d num) s = s.writeReg d v := by
  refine (State.privileged_supervisor hsup _ _).trans ?_
  rw [hv]

theorem exec_pxr_none {s : State} {d : Reg} {num : BitVec 5} (hsup : s.activePriv = 0)
    (hv : s.pxValue num = none) : exec (.pxr d num) s = .refused (.unreadablePX num) := by
  refine (State.privileged_supervisor hsup _ _).trans ?_
  rw [hv]

theorem State.pxValue_none {num : BitVec 5} (s : State)
    (h : num.toNat ∉ [0, 1, 2, 10, 11, 12, 13, 14]) : s.pxValue num = none := by
  unfold State.pxValue
  split <;> simp_all

/-- Settles O22. -/
theorem pxrReadsPrivilegedRegisters : Obligations.PxrReadsPrivilegedRegisters := by
  intro s d hsup
  refine ⟨fun x hx => ?_, fun num hnum => exec_pxr_none hsup (s.pxValue_none hnum)⟩
  have hvalue : s.pxValue x.1 = some x.2 := by
    simp only [List.mem_cons, List.not_mem_nil, or_false] at hx
    rcases hx with rfl | rfl | rfl | rfl | rfl | rfl | rfl | rfl <;> rfl
  rw [exec_pxr_some hsup hvalue]
  exact s.writeReg_writes d x.2

theorem exec_pxw {s : State} {num : BitVec 5} {src : Reg} (hsup : s.activePriv = 0) :
    exec (.pxw num src) s = s.pxWrite num (s.reg src) := State.privileged_supervisor hsup _ _

theorem State.pxWrite_refused {num : BitVec 5} (s : State) (v : Word)
    (h : num.toNat ∉ [0, 1, 10, 11, 12, 13, 14, 31]) :
    s.pxWrite num v = .refused (.unwritablePX num) := by
  unfold State.pxWrite
  split <;> simp_all

/-- Settles O23. -/
theorem pxwWritesPrivilegedRegisters : Obligations.PxwWritesPrivilegedRegisters :=
  fun s _ hsup => ⟨exec_pxw hsup, exec_pxw hsup, exec_pxw hsup, exec_pxw hsup, exec_pxw hsup,
    exec_pxw hsup, exec_pxw hsup, fun _ hnum => (exec_pxw hsup).trans (s.pxWrite_refused _ hnum)⟩

/-! ### The state update of PX[31] -/

theorem tableEntryAddr_eq (base : Word) (n : Nat) :
    tableEntryAddr base n = BitVec.ofNat 24 (base.toNat + 0x10 + n) := by
  apply BitVec.eq_of_toNat_eq
  have hbase := base.isLt
  simp only [tableEntryAddr, BitVec.toNat_add, BitVec.toNat_setWidth, BitVec.toNat_ofNat]
  omega

/-- The entry of page `n` is a word of memory wherever physical memory reaches that far. -/
theorem State.tableEntry_eq {s : State} {n : Nat} (hn : n < 16)
    (hpresent : s.px1.toNat + 0x10 + n < s.params.memKiW.toNat * 1024) :
    s.tableEntry s.px1 n = s.mem.readWord (BitVec.ofNat 24 (s.px1.toNat + 0x10 + n)) := by
  have hbase := s.px1.isLt
  rw [← tableEntryAddr_eq]
  apply State.tableEntry_present
  rw [tableEntryAddr_eq, BitVec.toNat_ofNat, Nat.mod_eq_of_lt (by omega)]
  exact hpresent

theorem State.updateState_undefined {s : State} (h : s.px0 ≠ 0x0000 ∧ s.px0 ≠ 0x0003) :
    s.updateState = .refused (.undefinedPrivilege s.px0) := by
  rw [State.updateState, if_neg (by tauto)]

theorem State.updateState_unmapped {s : State} (h : ¬ (s.px0 ≠ 0x0000 ∧ s.px0 ≠ 0x0003))
    (hzero : (s.tableEntry s.px1 0).getLsbD 15 = false) :
    s.updateState = .fault .pageZeroNotMapped := by
  rw [State.updateState, if_pos (by tauto), hzero]
  rfl

theorem State.updateState_mapped {s : State} (h : ¬ (s.px0 ≠ 0x0000 ∧ s.px0 ≠ 0x0003))
    (hzero : (s.tableEntry s.px1 0).getLsbD 15 = true) :
    s.updateState = .next { s.refreshed with ui := 0 } := by
  rw [State.updateState, if_pos (by tauto), if_pos hzero]
  rfl

/-- Settles O24. -/
theorem pxwUpdatesTheMachineState : Obligations.PxwUpdatesTheMachineState := by
  intro s src hsup entry present completes
  have hexec : exec (.pxw 31 src) s = s.updateState := exec_pxw hsup
  have hentry : ∀ n, n < 16 → present n → s.tableEntry s.px1 n = entry n :=
    fun n hlt hn => State.tableEntry_eq hlt hn
  have hcompletes : ¬ (s.px0 ≠ 0x0000 ∧ s.px0 ≠ 0x0003) →
      (s.tableEntry s.px1 0).getLsbD 15 = true → completes := fun hdef hzero =>
    ⟨_, hexec.trans (State.updateState_mapped hdef hzero),
      fun n hn => (s.pageTable_getElem s.px1 n).trans (hentry n n.isLt hn), hzero, rfl⟩
  split_ifs with hundef hbeyond hzero
  · exact hexec.trans (State.updateState_undefined hundef)
  · cases hbit : (s.tableEntry s.px1 0).getLsbD 15 with
    | false => exact .inl (hexec.trans (State.updateState_unmapped hundef hbit))
    | true => exact .inr (hcompletes hundef hbit)
  · rw [← hentry 0 (by decide) (Nat.lt_of_not_le hbeyond)] at hzero
    exact hexec.trans (State.updateState_unmapped hundef hzero)
  · rw [← hentry 0 (by decide) (Nat.lt_of_not_le hbeyond)] at hzero
    exact hcompletes hundef (eq_true_of_ne_false hzero)

/-! ### Ports -/

/-- A port read uses up one answer, where there is one, and records the access (R119). -/
theorem State.afterPortRead_eq (s : State) (port : Word) :
    ∃ n, s.afterPortRead port =
      { s with
        portTrace := s.portTrace ++ [PortEvent.read port]
        portAnswers := s.portAnswers.tail
        fresh := n } := by
  unfold State.afterPortRead
  split
  · rename_i hnone
    exact ⟨_, by rw [hnone]; rfl⟩
  · rename_i hsome
    exact ⟨_, by rw [hsome]; rfl⟩

/-- Settles O33. -/
theorem prdReadsThePort : Obligations.PrdReadsThePort := by
  intro s i d port hprd hsup
  have hexec := (exec_prd hprd).trans (State.privileged_supervisor hsup _ _)
  obtain ⟨n, hafter⟩ := s.afterPortRead_eq port
  rw [State.portRead, hafter] at hexec
  refine ⟨_, hexec, rfl, rfl, fun v rest hans => ⟨?_, ?_⟩, fun hans => ?_,
    fun r hr => State.reg_setReg_other _ d r _ hr, rfl, rfl, rfl, ⟨rfl, rfl, rfl, rfl, rfl⟩,
    systemKept_update .., ⟨fun _ => rfl, rfl⟩⟩
  · exact (State.reg_setReg_same _ d _).trans (by rw [State.portAnswer, hans])
  · exact congrArg List.tail hans
  · exact congrArg List.tail hans

/-- Settles O34. -/
theorem pwrWritesThePort : Obligations.PwrWritesThePort := by
  intro s i port src hpwr hsup
  rw [exec_pwr hpwr, State.privileged_supervisor hsup]
  exact State.portWrite_next.2 rfl

/-! ### External registers -/

theorem setWidth_fl (fl : FlagBits) : fl.setWidth 16 = 0#12 ++ fl := by
  revert fl
  decide

theorem exec_xrd {s : State} {d e : Reg} (he : e ≠ 4) :
    exec (.xrd d e) s = s.writeReg d (s.xregValue e) := if_neg he

/-- Settles O35. -/
theorem xrdReadsExternalRegisters : Obligations.XrdReadsExternalRegisters := by
  intro s d
  refine ⟨fun x hx => ?_, fun hpresent => ?_⟩
  · have hvalue : x.1 ≠ 4 ∧ s.xregValue x.1 = x.2 := by
      simp only [List.mem_cons, List.not_mem_nil, or_false] at hx
      rcases hx with rfl | rfl | rfl | rfl | rfl | rfl | rfl
      case inr.inr.inr.inr.inl => exact ⟨by simp, setWidth_fl s.fl⟩
      all_goals exact ⟨by simp, rfl⟩
    rw [exec_xrd hvalue.1, hvalue.2]
    exact s.writeReg_writes d x.2
  · have hexec : exec (.xrd d 4) s = s.writeReg d s.offset := State.needs_present hpresent _ _
    rw [hexec]
    exact s.writeReg_writes d s.offset

/-- The bits of a word above its low `n` are all 0 exactly where it is below `2 ^ n`. -/
theorem and_high_eq_zero_iff (v : Word) {low high : Word} {n : Nat} (hlow : low.toNat = 2 ^ n - 1)
    (hor : low ||| high = BitVec.allOnes 16) (hand : low &&& high = 0) :
    v &&& high = 0 ↔ v.toNat < 2 ^ n := by
  have htoNat : (v &&& low).toNat = v.toNat % 2 ^ n := by
    rw [BitVec.toNat_and, hlow, Nat.and_two_pow_sub_one_eq_mod]
  have hsplit : (v &&& low) ||| (v &&& high) = v := by
    rw [← BitVec.and_or_distrib_left, hor, BitVec.and_allOnes]
  constructor
  · intro h
    have hv : v &&& low = v := by simpa [h] using hsplit
    rw [← hv, htoNat]
    exact Nat.mod_lt _ (Nat.two_pow_pos n)
  · intro h
    have hv : v &&& low = v := BitVec.eq_of_toNat_eq (by rw [htoNat, Nat.mod_eq_of_lt h])
    rw [← hv, BitVec.and_assoc, hand]
    exact BitVec.and_zero

theorem f1Reserved_iff (v : Word) : v &&& 0xFFF8#16 = 0 ↔ v.toNat < 8 :=
  and_high_eq_zero_iff v (low := 0x0007#16) (n := 3) rfl rfl rfl

theorem f2Reserved_iff (v : Word) : v &&& 0xFFFE#16 = 0 ↔ v.toNat < 2 :=
  and_high_eq_zero_iff v (low := 0x0001#16) (n := 1) rfl rfl rfl

theorem State.writeF1_eq (s : State) (v : Word) : s.writeF1 v =
    if v.toNat < 8 then
      if v.getLsbD 0 = true ∧ s.params.cf.getLsbD 8 = false then .refused (.bigIntAbsent v)
      else .next { s with f1 := v, ui := 0 }
    else .refused (.reservedFeatureBit v) := by
  simp only [State.writeF1, ne_eq, f1Reserved_iff, ite_not, Bool.and_eq_true, Bool.not_eq_true',
    State.finish]

theorem State.writeF2_eq (s : State) (v : Word) : s.writeF2 v =
    if v.toNat < 2 then .next { s with f2 := v, ui := 0 } else .refused (.reservedFeatureBit v) := by
  simp only [State.writeF2, ne_eq, f2Reserved_iff, ite_not, State.finish]

/-- Settles O36. -/
theorem xwrWritesExternalRegisters : Obligations.XwrWritesExternalRegisters := by
  intro s i e v hxwr
  rw [exec_xwr hxwr]
  refine ⟨?_, ?_, ?_, ?_, ?_, ?_, ?_, ?_⟩ <;> rintro rfl
  case refine_5 => exact fun hpresent => State.needs_present hpresent _ _
  case refine_7 =>
    intro hv hbig
    refine (s.writeF1_eq v).trans ?_
    rw [if_pos hv, if_neg (by simp_all)]
  case refine_8 => exact fun hv => (s.writeF2_eq v).trans (if_pos hv)
  all_goals rfl

/-- Settles O37. -/
theorem xwrRefusesReservedFeatureBits : Obligations.XwrRefusesReservedFeatureBits := by
  intro s i e v hxwr
  rw [exec_xwr hxwr]
  refine ⟨?_, ?_, ?_⟩ <;> rintro rfl
  · exact fun hv => (s.writeF1_eq v).trans (if_neg (Nat.not_lt.2 hv))
  · intro hv hbig habsent
    refine (s.writeF1_eq v).trans ?_
    rw [if_pos hv, if_pos ⟨hbig, habsent⟩]
  · exact fun hv => (s.writeF2_eq v).trans (if_neg (Nat.not_lt.2 hv))

end Sys2Proof.Machine

/-! PROOFS. Memory: translation, loads and stores, and the values a word has held (spec/20_memory.md R49 to
R59, spec/43_memory_access.md). -/

namespace Sys2Proof.Machine

/-! ### Translation -/

/-- The entry of the page that an address lies in, by number (R49). -/
theorem State.pageEntry_eq (s : State) {va : Word} {page : Fin 16} (h : va.toNat / 4096 = page) :
    s.pageEntry va = s.ptCache[page] := by
  have hpage : (va.extractLsb' 12 4).toNat = page := by
    have hva := va.isLt
    rw [← h, BitVec.extractLsb'_toNat, Nat.shiftRight_eq_div_pow]
    omega
  simp [State.pageEntry, hpage]

/-- Frame and offset of an address, over numbers (R51). -/
theorem toNat_frameAddr (entry va : Word) :
    (frameAddr entry va).toNat = entry.toNat % 4096 * 4096 + va.toNat % 4096 := by
  have hlow : (va.extractLsb' 0 12).toNat = va.toNat % 4096 := by simp
  have hframe : (entry.extractLsb' 0 12).toNat = entry.toNat % 4096 := by simp
  rw [frameAddr, BitVec.toNat_append, ← Nat.shiftLeft_add_eq_or_of_lt (BitVec.isLt _),
    Nat.shiftLeft_eq, hlow, hframe]

/-- Settles O38. -/
theorem translationFollowsThePageTable : Obligations.TranslationFollowsThePageTable := by
  intro s kind va page hpage entry bit code target
  have hentry : s.pageEntry va = entry := s.pageEntry_eq hpage
  have hbit : kind.entryBit = bit := by cases kind <;> rfl
  have hcode : kind.code = code := by cases kind <;> rfl
  have htarget : (frameAddr entry va).toNat = target := toNat_frameAddr entry va
  have hphys : s.params.physWords = s.params.memKiW.toNat * 1024 := rfl
  cases hpaging : s.pagingActive with
  | false =>
    have hva : va.toNat < 2 ^ 24 := va.isLt.trans (by decide)
    exact ⟨_, State.translate_unpaged hpaging, by rw [BitVec.toNat_setWidth, Nat.mod_eq_of_lt hva]⟩
  | true =>
    rw [if_neg (by decide), State.translate, if_pos hpaging, hentry, hbit, hcode, htarget, hphys]
    split_ifs
    · rfl
    · rfl
    · exact ⟨_, rfl, htarget⟩
    · exact ⟨_, rfl, htarget⟩

/-! ### Loads -/

theorem State.loadTo_ok {s : State} {a : Word} {pa : PAddr} (d : Reg)
    (h : s.translate .read a = .ok pa) : s.loadTo d a = s.writeReg d (s.mem.readWord pa) :=
  State.onAccess_ok _ h

/-- Settles O39. -/
theorem loadsReadTheWord : Obligations.LoadsReadTheWord := by
  intro s i d a pa
  refine ⟨fun hmrd hpa => ?_, fun hmro hpresent hpa => ?_⟩
  · rw [exec_mrd hmrd, State.loadTo_ok d hpa]
    exact s.writeReg_writes d _
  · rw [exec_mro hmro, State.needs_present hpresent, State.loadTo_ok d hpa]
    exact s.writeReg_writes d _

theorem exec_pop (d : Reg) (low : BitVec 5) (s : State) : exec (.pop d low) s =
    s.loadThen s.sp fun v => State.finish { s.setReg d v with sp := s.sp + 1 } := rfl

theorem exec_pop_ok {s : State} {pa : PAddr} (d : Reg) (low : BitVec 5)
    (h : s.translate .read s.sp = .ok pa) :
    exec (.pop d low) s = .next { s.setReg d (s.mem.readWord pa) with sp := s.sp + 1, ui := 0 } :=
  State.onAccess_ok _ h

/-- Settles O41. -/
theorem popReadsThenIncrements : Obligations.PopReadsThenIncrements := by
  intro s d low pa hpa
  have hwrites := writesResult_update s d (s.mem.readWord pa) s.fl s.fresh
  exact ⟨_, exec_pop_ok d low hpa, hwrites.result, rfl, hwrites.regs, rfl, rfl, rfl, rfl, rfl, rfl, rfl,
    systemKept_update .., ⟨rfl, rfl, rfl⟩, ⟨fun _ => rfl, rfl⟩⟩

/-! ### The values a word has held -/

theorem State.mem_heldValues {s : State} {pa : PAddr} {x : Word} :
    x ∈ s.heldValues pa ↔ x = s.mem.readWord pa ∨ (pa, x) ∈ s.replaced := by
  simp [State.heldValues]

/-- A store adds its value to those its word has held, and to no other word's (R59). -/
theorem State.mem_heldValues_storeWord {s : State} (hwf : s.mem.wf) (pa qa : PAddr) (v x : Word) :
    x ∈ (s.storeWord pa v).heldValues qa ↔ (qa = pa ∧ x = v) ∨ x ∈ s.heldValues qa := by
  rw [State.mem_heldValues, State.mem_heldValues, State.storeWord_mem, State.storeWord_replaced,
    List.mem_insert_iff, Prod.mk.injEq]
  by_cases h : qa = pa
  · subst h
    rw [Memory.readWord_writeWord_same _ _ _ hwf]
    tauto
  · rw [Memory.readWord_writeWord_other _ _ _ _ h]
    tauto

/-- The fetched word is one of those held: the newest, or a free choice among them (R59). -/
theorem State.fetchedWord_mem (s : State) (pa : PAddr) : s.fetchedWord pa ∈ s.heldValues pa := by
  unfold State.fetchedWord
  split
  · exact State.mem_heldValues.2 (.inl rfl)
  · split
    · rename_i v hone
      rw [hone]
      exact List.mem_singleton_self v
    · have hpos : 0 < (s.heldValues pa).length := by simp [State.heldValues]
      rw [List.getD_eq_getElem _ _ (Nat.mod_lt _ hpos)]
      exact List.getElem_mem _

/-- Settles O11. -/
theorem fetchReturnsAValueTheWordHeld : Obligations.FetchReturnsAValueTheWordHeld := by
  intro s pa hwf
  refine ⟨s.fetchedWord_mem pa, fun hprotected => if_pos hprotected, fun hnever => ?_,
    fun qa v x => State.mem_heldValues_storeWord hwf qa pa v x⟩
  exact (State.mem_heldValues.1 (s.fetchedWord_mem pa)).resolve_right (hnever _)

/-! ### Stores -/

theorem State.storeFrom_ok {s : State} {a : Word} {pa : PAddr} (src : Reg)
    (h : s.translate .write a = .ok pa) :
    s.storeFrom a src = .next { s.storeWord pa (s.reg src) with ui := 0 } := State.onAccess_ok _ h

theorem memoryKeptBut_storeWord (s : State) (pa : PAddr) (v : Word) :
    MemoryKeptBut pa s (s.storeWord pa v) :=
  fun a h0 h1 => Memory.read_writeWord_other s.mem pa v a h0 h1

/-- Settles O40. -/
theorem storesWriteTheWord : Obligations.StoresWriteTheWord := by
  intro s i a src pa hwf hstore
  have hexec : exec i s = .next { s.storeWord pa (s.reg src) with ui := 0 } := by
    rcases hstore with ⟨hmwr, hpa⟩ | ⟨hmwo, hpresent, hpa⟩
    · rw [exec_mwr hmwr, State.storeFrom_ok src hpa]
    · rw [exec_mwo hmwo, State.needs_present hpresent, State.storeFrom_ok src hpa]
  exact ⟨_, hexec, Memory.readWord_writeWord_same _ _ _ hwf, memoryKeptBut_storeWord s pa _,
    fun qa x => State.mem_heldValues_storeWord hwf pa qa _ x, fun _ => rfl, rfl, rfl, rfl,
    ⟨rfl, rfl, rfl, rfl, rfl⟩,
    systemKept_update .., ⟨rfl, rfl, rfl⟩⟩

theorem exec_psh (src : Reg) (low : BitVec 5) (s : State) : exec (.psh src low) s =
    s.storeThen (s.sp - 1) (s.reg src) fun u => State.finish { u with sp := s.sp - 1 } := rfl

theorem exec_psh_ok {s : State} {pa : PAddr} (src : Reg) (low : BitVec 5)
    (h : s.translate .write (s.sp - 1) = .ok pa) :
    exec (.psh src low) s =
      .next { s.storeWord pa (s.reg src) with sp := s.sp - 1, ui := 0 } :=
  State.onAccess_ok _ h

/-- Settles O42. -/
theorem pshDecrementsThenStores : Obligations.PshDecrementsThenStores := by
  intro s src low pa hwf hpa
  exact ⟨_, exec_psh_ok src low hpa, Memory.readWord_writeWord_same _ _ _ hwf, rfl,
    memoryKeptBut_storeWord s pa _, fun qa x => State.mem_heldValues_storeWord hwf pa qa _ x,
    fun _ => rfl, rfl, rfl, rfl, rfl, rfl, rfl, rfl,
    systemKept_update .., ⟨rfl, rfl, rfl⟩⟩

/-! ### Loads and stores as accesses -/

/-- A load is its access, followed by a register write of the word read. -/
theorem exec_load {s : State} {i : Instr} {d : Reg} {a : Word} (h : LoadAccess s i d a) :
    ∃ k, exec i s = s.loadThen a k ∧ ∀ v, ∃ t, k v = .next t ∧ t.reg d = v := by
  cases h with
  | mrd hmrd => exact ⟨_, exec_mrd hmrd, fun v => ⟨_, rfl, State.reg_setReg_same s d v⟩⟩
  | mro hpresent hmro =>
    exact ⟨_, (exec_mro hmro).trans (State.needs_present hpresent _ _),
      fun v => ⟨_, rfl, State.reg_setReg_same s d v⟩⟩
  | pop => exact ⟨_, exec_pop .., fun v => ⟨_, rfl, State.reg_setReg_same s d v⟩⟩

/-- A store is its access, followed by nothing that changes memory. -/
theorem exec_store {s : State} {i : Instr} {a : Word} {src : Reg} (h : StoreAccess s i a src) :
    ∃ k, exec i s = s.storeThen a (s.reg src) k ∧ ∀ u, ∃ t, k u = .next t ∧ t.mem = u.mem := by
  cases h with
  | mwr hmwr => exact ⟨_, exec_mwr hmwr, fun u => ⟨_, rfl, rfl⟩⟩
  | mwo hpresent hmwo =>
    exact ⟨_, (exec_mwo hmwo).trans (State.needs_present hpresent _ _), fun u => ⟨_, rfl, rfl⟩⟩
  | psh => exact ⟨_, exec_psh .., fun u => ⟨_, rfl, rfl⟩⟩

theorem exec_dataAccess {s : State} {i : Instr} {kind : AccessKind} {a : Word}
    (h : DataAccess s i kind a) : ∃ k, exec i s = s.onAccess kind a k := by
  cases h with
  | load hload =>
    obtain ⟨k, hk, -⟩ := exec_load hload
    exact ⟨_, hk⟩
  | store hstore =>
    obtain ⟨k, hk, -⟩ := exec_store hstore
    exact ⟨_, hk⟩

theorem State.onAccess_interrupt {s : State} {kind : AccessKind} {va : Word} {id : BitVec 8}
    {i0 i1 : Word} (k : PAddr → Result) (h : s.translate kind va = .interrupt id i0 i1) :
    s.onAccess kind va k = s.raise id i0 i1 0 := by
  simp [State.onAccess, h]

theorem State.onAccess_absent {s : State} {kind : AccessKind} {va : Word} {pa : PAddr}
    (k : PAddr → Result) (h : s.translate kind va = .absent pa) :
    s.onAccess kind va k = .fault (.frameBeyondMemory pa) := by
  simp [State.onAccess, h]

/-- Settles O43. -/
theorem dataAccessFaults : Obligations.DataAccessFaults := by
  intro s i kind a haccess
  obtain ⟨k, hk⟩ := exec_dataAccess haccess
  rw [hk]
  refine ⟨fun id i0 i1 hint hie => ?_, fun id i0 i1 hint hie => ?_, fun pa habsent => ?_⟩
  · rw [State.onAccess_interrupt k hint]
    exact State.raise_enters hie ..
  · rw [State.onAccess_interrupt k hint]
    exact State.raise_doubleFault hie ..
  · exact State.onAccess_absent k habsent

/-- Settles O44. -/
theorem loadSeesTheLatestStore : Obligations.LoadSeesTheLatestStore := by
  intro s t s' i j a a' src d pa pa' hwf hstore hpa hnext hsame hload hpa'
  have hmem : t.mem = s.mem.writeWord pa (s.reg src) := by
    obtain ⟨k, hk, hkmem⟩ := exec_store hstore
    obtain ⟨t', ht', hmem⟩ := hkmem (s.storeWord pa (s.reg src))
    have hexec : exec i s = .next t' := hk.trans ((State.onAccess_ok _ hpa).trans ht')
    have htt : t' = t := Host.Outcome.next.inj (hexec.symm.trans hnext)
    exact htt ▸ hmem
  obtain ⟨k, hk, hkreg⟩ := exec_load hload
  obtain ⟨u, hu, hreg⟩ := hkreg (s'.mem.readWord pa')
  refine ⟨u, hk.trans ((State.onAccess_ok _ hpa').trans hu), ?_⟩
  rw [hreg, hsame, hmem]
  split_ifs with h
  · rw [h, Memory.readWord_writeWord_same _ _ _ hwf]
  · exact Memory.readWord_writeWord_other _ _ _ _ h

end Sys2Proof.Machine

/-! PROOFS. The step: requests, fetch and what the decoded word does (spec/30_encoding.md R72,
spec/60_exceptions.md R174 to R184), and the state after reset. -/

namespace Sys2Proof.Machine

/-! ### Requests -/

theorem mem_addRequest {p : List Request} {r q : Request} : q ∈ addRequest p r ↔ q ∈ p ∨ q = r := by
  unfold addRequest
  split_ifs with h
  · exact ⟨.inl, fun hq => hq.elim id fun e => e ▸ h⟩
  · simp

theorem nodup_addRequest {p : List Request} (r : Request) (h : p.Nodup) : (addRequest p r).Nodup := by
  unfold addRequest
  split_ifs with hmem
  · exact h
  · exact List.nodup_append.2 ⟨h, List.nodup_singleton r, fun a ha b hb =>
      fun e => hmem (List.mem_singleton.1 hb ▸ e ▸ ha)⟩

theorem mem_foldl_addRequest {rs p : List Request} {q : Request} :
    q ∈ rs.foldl addRequest p ↔ q ∈ p ∨ q ∈ rs := by
  induction rs generalizing p with
  | nil => simp
  | cons r rs ih => rw [List.foldl_cons, ih, mem_addRequest, List.mem_cons, or_assoc]

theorem nodup_foldl_addRequest {rs p : List Request} (h : p.Nodup) :
    (rs.foldl addRequest p).Nodup := by
  induction rs generalizing p with
  | nil => exact h
  | cons r rs ih => exact ih (nodup_addRequest r h)

/-- The requests of this step's devices join `pending`, and the schedule moves on (R184). -/
theorem State.receive_update (s : State) :
    s.receive = { s with
      arrivals := s.arrivals.tail
      pending := ((s.arrivals.headD []).map ioRequest).foldl addRequest s.pending } := by
  unfold State.receive
  split
  · rename_i hnone
    rw [hnone]
    change s = { s with arrivals := [] }
    rw [← hnone]
  · rename_i hsome
    rw [hsome]
    rfl

theorem State.receive_pending (s : State) :
    s.receive.pending = ((s.arrivals.headD []).map ioRequest).foldl addRequest s.pending := by
  rw [State.receive_update]

theorem State.mem_receive_pending {s : State} {r : Request} :
    r ∈ s.receive.pending ↔ r ∈ s.pending ∨ ∃ port ∈ s.arrivals.headD [], r = ⟨5, port, 0, 0⟩ := by
  rw [State.receive_pending, mem_foldl_addRequest, List.mem_map]
  simp only [ioRequest, eq_comm (b := r)]

theorem State.nodup_receive_pending {s : State} (h : s.pending.Nodup) : s.receive.pending.Nodup := by
  rw [State.receive_pending]
  exact nodup_foldl_addRequest h

/-- Settles O12. -/
theorem requestsJoinPending : Obligations.RequestsJoinPending :=
  fun s => ⟨fun _ => State.mem_receive_pending, State.nodup_receive_pending,
    by rw [State.receive_pending]; exact s.receive_update⟩

/-! ### Delivery -/

theorem lowestRequest_isSome {rs : List Request} (h : rs ≠ []) : ∃ r, lowestRequest rs = some r := by
  cases rs with
  | nil => exact absurd rfl h
  | cons r rest =>
    unfold lowestRequest
    split
    · exact ⟨_, rfl⟩
    · split_ifs <;> exact ⟨_, rfl⟩

theorem step_delivers {s : State} {r : Request} (hrun : s.run ≠ .dead)
    (h : s.receive.deliverable = some r) : step s = .next (s.receive.takeRequest r) := by
  unfold step cycle
  split
  · exact absurd ‹_› hrun
  · rw [h]
  · rw [h]

/-- Settles O13. -/
theorem lowestPendingRequestIsTaken : Obligations.LowestPendingRequestIsTaken := by
  intro s hrun hie hpending
  obtain ⟨r, hr⟩ := lowestRequest_isSome hpending
  obtain ⟨hmem, hlowest⟩ := lowestRequest_spec hr
  have hdeliver : s.receive.deliverable = some r := by
    rw [State.deliverable, s.receive_ie, if_pos hie, hr]
  exact ⟨r, hmem, hlowest, _, step_delivers hrun hdeliver, enters_enter_update .., rfl⟩

/-- Settles O14. -/
theorem deadAndWaitingRunNothing : Obligations.DeadAndWaitingRunNothing := by
  intro s
  refine ⟨fun hdead => ?_, fun hwaiting hnone => ?_⟩
  · rw [step, cycle, hdead]
  · rw [step, cycle, hwaiting]
    simp only [hnone]

/-! ### Fetch -/

section Fetch

variable {s : State} (hrun : s.run = .running) (hnone : s.receive.deliverable = none)
include hrun hnone

theorem step_fetches : step s = s.receive.fetchAndRun exec := by
  rw [step, cycle, hrun]
  simp only [hnone]

/-- A step whose fetch succeeds runs the fetched word, with IP advanced (R72). -/
theorem step_runsWord {pa : PAddr} (hpa : s.receive.translate .execute s.ip = .ok pa) :
    ∃ n, step s =
      State.runWord exec { s.receive with ip := s.ip + 1, fresh := n } (s.receive.fetchedWord pa) := by
  obtain ⟨n, hn⟩ := s.receive.advanceIp.afterFetch_eq pa
  refine ⟨n, (step_fetches hrun hnone).trans ?_⟩
  rw [State.fetchAndRun, State.onAccess_ok _ (s.receive_ip ▸ hpa), hn, State.advanceIp, s.receive_ip]

theorem step_fetchInterrupt {id : BitVec 8} {i0 i1 : Word}
    (h : s.receive.translate .execute s.ip = .interrupt id i0 i1) :
    step s = State.raise { s.receive with ip := s.ip + 1 } id i0 i1 0 := by
  rw [step_fetches hrun hnone, State.fetchAndRun, s.receive_ip,
    State.onAccess_interrupt (s := s.receive.advanceIp) _ h, State.advanceIp, s.receive_ip]

theorem step_fetchAbsent {pa : PAddr} (h : s.receive.translate .execute s.ip = .absent pa) :
    step s = .fault (.frameBeyondMemory pa) := by
  rw [step_fetches hrun hnone, State.fetchAndRun, s.receive_ip,
    State.onAccess_absent (s := s.receive.advanceIp) _ h]

end Fetch

theorem State.runWord_legal (ex : Instr → State → Result) (s : State) {w : Word} {i : Instr}
    (h : decode w = .ok i) : s.runWord ex w = ex i s := by
  rw [State.runWord, h]

theorem State.runWord_illegal (ex : Instr → State → Result) (s : State) {w : Word}
    (h : ∀ i, decode w ≠ .ok i) : s.runWord ex w = s.raise 6 w 0 0 := by
  unfold State.runWord
  split
  · exact absurd ‹_› (h _)
  · rfl

/-- Settles O8. -/
theorem stepRunsTheDecodedInstruction : Obligations.StepRunsTheDecodedInstruction := by
  intro s pa i hrun hnone hpa hdecode
  obtain ⟨n, hn⟩ := step_runsWord hrun hnone hpa
  exact ⟨_, hn.trans (State.runWord_legal exec _ hdecode), rfl⟩

/-- Settles O9. -/
theorem illegalWordRaisesInterruptSix : Obligations.IllegalWordRaisesInterruptSix := by
  intro s pa hrun hnone hpa hillegal
  obtain ⟨n, hn⟩ := step_runsWord hrun hnone hpa
  rw [hn, State.runWord_illegal exec _ hillegal]
  split_ifs with hie
  · exact ⟨_, State.raise_next.2 ⟨s.receive_ie.trans hie, rfl⟩, enters_enter_update .., rfl⟩
  · exact State.raise_doubleFault (s := { s.receive with ip := s.ip + 1, fresh := n })
      (s.receive_ie.trans (eq_false_of_ne_true hie)) ..

/-- Settles O10. -/
theorem fetchFaults : Obligations.FetchFaults := by
  intro s hrun hnone
  refine ⟨fun id i0 i1 hint => ?_, fun pa habsent => step_fetchAbsent hrun hnone habsent⟩
  rw [step_fetchInterrupt hrun hnone hint]
  split_ifs with hie
  · exact State.raise_enters (s := { s.receive with ip := s.ip + 1 })
      (s.receive_ie.trans hie) ..
  · exact State.raise_doubleFault (s := { s.receive with ip := s.ip + 1 })
      (s.receive_ie.trans (eq_false_of_ne_true hie)) ..

/-! ### Reset -/

/-- Settles O53. -/
theorem resetState : Obligations.ResetState :=
  ⟨rfl, rfl, rfl, rfl, rfl, rfl, rfl, rfl, rfl, rfl, by decide, by decide, by decide⟩

/-- Settles O54. -/
theorem resetHasTheInvariant : Obligations.ResetHasTheInvariant where
  memWf := State.reset_mem_wf
  privLegal := .inl rfl
  f1Reserved := rfl
  bigIntAvailable := fun _ => by decide
  f2Reserved := rfl
  pageZeroMapped := fun h => absurd h (by decide)
  pendingSet := List.nodup_nil
  pendingIo := fun _ h => absurd h List.not_mem_nil

end Sys2Proof.Machine

/-! PROOFS. The whole machine: everything an instruction can do to the state, once, and the statements that
follow from it. -/

namespace Sys2Proof.Machine

/-- Everything an instruction can do when it answers a next state: which fields it may write, and for the
parts that few instructions write, which instructions those are. -/
inductive Effect (s : State) : Instr → State → Prop
  /-- an interrupt is entered instead -/
  | enters {i} (r) : Effect s i (s.enter r)
  /-- general registers and flags -/
  | computes {i regs fl n} : WritesFlags i ∨ fl = s.fl →
      Effect s i { s with regs := regs, fl := fl, ui := 0, fresh := n }
  | jumps {i a fl} : WritesIp i → WritesFlags i ∨ fl = s.fl →
      Effect s i { s with ip := a, fl := fl, ui := 0 }
  | calls {i a} : (∃ imm, i = .calImm imm) ∨ (∃ src low, i = .calReg src low) →
      Effect s i { s with lr := s.ip, ip := a, ui := 0 }
  | usesPort {i regs trace answers n} : s.activePriv = 0 →
      Effect s i
        { s with regs := regs, portTrace := trace, portAnswers := answers, ui := 0, fresh := n }
  /-- PXW of a register other than 31 -/
  | writesPx {i px0 px1 px10 px11 px12 px13 px14} : s.activePriv = 0 →
      Effect s i
        { s with
          px0 := px0, px1 := px1, px10 := px10, px11 := px11, px12 := px12, px13 := px13, px14 := px14
          ui := 0 }
  | refreshes (src) : s.activePriv = 0 → s.px0 = 0x0000 ∨ s.px0 = 0x0003 →
      (s.tableEntry s.px1 0).getLsbD 15 = true → Effect s (.pxw 31 src) { s.refreshed with ui := 0 }
  | returns (low) : s.activePriv = 0 → Effect s (.irt low) s.leave
  | waits (low) : s.activePriv = 0 → Effect s (.hlt low) { s with ie := true, run := .waiting, ui := 0 }
  | stops (low) : s.activePriv = 0 → Effect s (.hcf low) { s with ie := false, run := .dead, ui := 0 }
  | writesUi {i v} : WritesXreg 1 i → Effect s i { s with ui := v }
  | writesLr {i v} : WritesXreg 2 i → Effect s i { s with lr := v, ui := 0 }
  | writesSp {i v} : WritesXreg 3 i → Effect s i { s with sp := v, ui := 0 }
  | writesOffset {i v} : WritesXreg 4 i → Effect s i { s with offset := v, ui := 0 }
  | writesF1 {i v} : WritesXreg 6 i → v &&& 0xFFF8#16 = 0 →
      (v.getLsbD 0 = true → s.params.cf.getLsbD 8 = true) → Effect s i { s with f1 := v, ui := 0 }
  | writesF2 {i v} : WritesXreg 7 i → v &&& 0xFFFE#16 = 0 → Effect s i { s with f2 := v, ui := 0 }
  | pops (d low) (regs p) : Effect s (.pop d low) { s with regs := regs, sp := p, ui := 0 }
  | stores {i a src pa v p} : Stores i → StoreAccess s i a src → s.translate .write a = .ok pa →
      (∃ src low, i = .psh src low) ∨ p = s.sp →
      Effect s i { s.storeWord pa v with sp := p, ui := 0 }

/-! ### The shared operations have these effects -/

section Operations

variable {s t : State} {i : Instr}

theorem Effect.of_entered (h : EnteredFrom s t) : Effect s i t := by
  obtain ⟨r, rfl⟩ := h
  exact .enters r

theorem Effect.of_raise {id : BitVec 8} {i0 i1 i2 : Word} (h : s.raise id i0 i1 i2 = .next t) :
    Effect s i t := .of_entered (State.raise_entered h)

theorem Effect.of_needs {e : Extension} {w : Word} {k : Result} (h : s.needs e w k = .next t)
    (hk : s.has e = true → k = .next t → Effect s i t) : Effect s i t :=
  (State.needs_next h).elim (fun ⟨hpresent, hnext⟩ => hk hpresent hnext) fun ⟨_, hr⟩ => .of_raise hr

theorem Effect.of_privileged {w : Word} {k : Result} (h : s.privileged w k = .next t)
    (hk : s.activePriv = 0 → k = .next t → Effect s i t) : Effect s i t :=
  (State.privileged_next h).elim (fun ⟨hsup, hnext⟩ => hk hsup hnext) fun ⟨_, hr⟩ => .of_raise hr

theorem Effect.of_finish {fl : FlagBits} (hfl : WritesFlags i ∨ fl = s.fl)
    (h : State.finish { s with fl := fl } = .next t) : Effect s i t := by
  rw [State.finish_next.1 h]
  exact .computes hfl

theorem Effect.of_writeReg {d : Reg} {r : Word} (h : s.writeReg d r = .next t) : Effect s i t := by
  rw [State.writeReg_next.1 h]
  exact .computes (.inr rfl)

theorem Effect.of_writeSZ {d : Reg} {r : Word} (hi : WritesFlags i) (h : s.writeSZ d r = .next t) :
    Effect s i t := by
  rw [State.writeSZ_next.1 h]
  exact .computes (.inl hi)

theorem Effect.of_testSZ {r : Word} (hi : WritesFlags i) (h : s.testSZ r = .next t) :
    Effect s i t := by
  rw [State.testSZ_next.1 h]
  exact .computes (.inl hi)

theorem Effect.of_writeFlags {d : Reg} {r : Word} {fl : FlagBits} (hi : WritesFlags i)
    (h : s.writeFlags d r fl = .next t) : Effect s i t := by
  rw [State.writeFlags_next.1 h]
  exact .computes (.inl hi)

theorem Effect.of_divBy {d : Reg} {b : Word} (hi : WritesFlags i) (h : s.divBy d b = .next t) :
    Effect s i t := by
  unfold State.divBy at h
  split_ifs at h
  · exact .of_raise h
  · exact .of_writeSZ hi h

theorem Effect.of_jumpBy {off : Word} (hi : WritesIp i) (h : (s.jumpBy off).finish = .next t) :
    Effect s i t := by
  rw [State.finish_jumpBy_next.1 h]
  exact .jumps hi (.inr rfl)

theorem Effect.of_jumpIf {cond : Bool} {off : Word} (hi : WritesIp i)
    (h : s.jumpIf cond off = .next t) : Effect s i t := by
  cases cond with
  | true => exact .of_jumpBy hi h
  | false => exact .of_finish (.inr rfl) h

theorem Effect.of_moveIf {cond : Bool} {d src : Reg} (h : s.moveIf cond d src = .next t) :
    Effect s i t := by
  cases cond with
  | true => exact .of_writeReg h
  | false => exact .of_finish (.inr rfl) h

theorem Effect.of_callBy {off : Word}
    (hi : (∃ imm, i = .calImm imm) ∨ (∃ src low, i = .calReg src low))
    (h : s.callBy off = .next t) : Effect s i t := by
  rw [State.callBy_next.1 h]
  exact .calls hi

theorem Effect.of_loadTo {d : Reg} {a : Word} (h : s.loadTo d a = .next t) : Effect s i t :=
  (State.loadThen_next h).elim (fun ⟨_, _, hk⟩ => .of_writeReg hk) .of_entered

theorem Effect.of_storeFrom {a : Word} {src : Reg} (hi : Stores i) (haccess : StoreAccess s i a src)
    (h : s.storeFrom a src = .next t) : Effect s i t := by
  rcases State.storeThen_next h with ⟨pa, hpa, hk⟩ | hentered
  · rw [State.finish_next.1 hk]
    exact .stores hi haccess hpa (.inr rfl)
  · exact .of_entered hentered

theorem Effect.of_portRead {d : Reg} {port : Word} (hsup : s.activePriv = 0)
    (h : s.portRead d port = .next t) : Effect s i t := by
  obtain ⟨n, hn⟩ := s.afterPortRead_eq port
  rw [State.portRead_next.1 h, hn]
  exact .usesPort hsup

theorem Effect.of_portWrite {port v : Word} (hsup : s.activePriv = 0)
    (h : s.portWrite port v = .next t) : Effect s i t := by
  rw [State.portWrite_next.1 h]
  exact .usesPort hsup

theorem Effect.of_pxWrite {num : BitVec 5} {src : Reg} {v : Word} (hsup : s.activePriv = 0)
    (h : s.pxWrite num v = .next t) : Effect s (.pxw num src) t := by
  rcases State.pxWrite_next h with ⟨-, rfl⟩ | ⟨-, rfl⟩ | ⟨-, rfl⟩ | ⟨-, rfl⟩ | ⟨-, rfl⟩ | ⟨-, rfl⟩ |
    ⟨-, rfl⟩ | ⟨hnum, hupdate⟩
  case inr.inr.inr.inr.inr.inr.inr =>
    obtain ⟨hlevel, hzero, rfl⟩ := State.updateState_next hupdate
    rw [BitVec.eq_of_toNat_eq (y := 31#5) hnum]
    exact .refreshes src hsup hlevel hzero
  all_goals exact .writesPx hsup

theorem Effect.of_xregWrite {e : Reg} {v w : Word} (hi : WritesXreg e i)
    (hip : e = 0 → WritesIp i) (hfl : e = 5 → WritesFlags i) (h : s.xregWrite e v w = .next t) :
    Effect s i t := by
  have he : ∀ k : Reg, e.toNat = k.toNat → e = k := fun _ => BitVec.eq_of_toNat_eq
  rcases State.xregWrite_next h with hE | ⟨hn, rfl⟩ | ⟨hn, rfl⟩ | ⟨hn, rfl⟩ | ⟨hn, rfl⟩ | ⟨hn, -, rfl⟩ |
    ⟨hn, rfl⟩ | ⟨hn, hf⟩ | ⟨hn, hf⟩
  · exact .of_entered hE
  · exact .jumps (hip (he 0 hn)) (.inr rfl)
  · exact .writesUi (he 1 hn ▸ hi)
  · exact .writesLr (he 2 hn ▸ hi)
  · exact .writesSp (he 3 hn ▸ hi)
  · exact .writesOffset (he 4 hn ▸ hi)
  · exact .computes (.inl (hfl (he 5 hn)))
  · obtain ⟨hreserved, hbig, rfl⟩ := State.writeF1_next hf
    exact .writesF1 (he 6 hn ▸ hi) hreserved hbig
  · obtain ⟨hreserved, rfl⟩ := State.writeF2_next hf
    exact .writesF2 (he 7 hn ▸ hi) hreserved

end Operations

/-- Everything an instruction can do, instruction by instruction. -/
theorem exec_effect {i : Instr} {s t : State} (h : exec i s = .next t) : Effect s i t := by
  cases i with
  | int _ => exact .of_raise h
  | irt low =>
    refine .of_privileged h fun hsup hk => ?_
    cases hk
    exact .returns low hsup
  | hlt low =>
    refine .of_privileged h fun hsup hk => ?_
    cases hk
    exact .waits low hsup
  | hcf low =>
    refine .of_privileged h fun hsup hk => ?_
    cases hk
    exact .stops low hsup
  | pxr _ _ =>
    refine .of_privileged h fun _ hk => ?_
    split at hk
    · exact .of_writeReg hk
    · cases hk
  | pxw _ _ => exact .of_privileged h .of_pxWrite
  | calImm _ | calReg _ _ => exact .of_callBy (by simp) h
  | jmpImm _ | jmpReg _ _ => exact .of_jumpBy (by constructor) h
  | jcu _ _ | jcs _ _ => exact .of_jumpIf (by constructor) h
  | ret socz =>
    cases h
    exact .jumps (.ret socz) (.inl (.ret socz))
  | nop _ => exact .of_finish (.inr rfl) h
  | prdReg _ _ | prdImm _ _ => exact .of_privileged h .of_portRead
  | pwrReg _ _ | pwrImm _ _ => exact .of_privileged h .of_portWrite
  | xrd _ _ => exact (State.xregCheck_next h).elim (fun ⟨_, hk⟩ => .of_writeReg hk) .of_entered
  | xwrReg e src =>
    exact .of_xregWrite (.reg src) (fun he => he ▸ .xwrIpReg src) (fun he => he ▸ .xwrFlReg src) h
  | xwrImm e v =>
    exact .of_xregWrite (.imm v) (fun he => he ▸ .xwrIpImm v) (fun he => he ▸ .xwrFlImm v) h
  | mrdReg _ _ | mrdImm _ _ => exact .of_loadTo h
  | mroReg _ _ | mroImm _ _ => exact .of_needs h fun _ => .of_loadTo
  | mwrReg d src => exact .of_storeFrom (.mwrReg d src) (.mwr (.inl ⟨d, rfl, rfl⟩)) h
  | mwrImm v src => exact .of_storeFrom (.mwrImm v src) (.mwr (.inr ⟨v, rfl, rfl⟩)) h
  | mwoReg d src =>
    exact .of_needs h fun hr => .of_storeFrom (.mwoReg d src) (.mwo hr (.inl ⟨d, rfl, rfl⟩))
  | mwoImm v src =>
    exact .of_needs h fun hr => .of_storeFrom (.mwoImm v src) (.mwo hr (.inr ⟨v, rfl, rfl⟩))
  | pop d low =>
    rw [exec_pop] at h
    rcases State.loadThen_next h with ⟨_, _, hk⟩ | hentered
    · cases hk
      exact .pops d low _ _
    · exact .of_entered hentered
  | psh src low =>
    rw [exec_psh] at h
    rcases State.storeThen_next h with ⟨pa, hpa, hk⟩ | hentered
    · cases hk
      exact .stores (.psh src low) (.psh src low) hpa (.inl ⟨src, low, rfl⟩)
    · exact .of_entered hentered
  | mulReg _ _ | mulImm _ _ => exact .of_needs h fun _ => .of_writeSZ (by constructor)
  | divReg _ _ | divImm _ _ => exact .of_needs h fun _ => .of_divBy (by constructor)
  | cmpReg _ _ | cmpImm _ _ => exact .of_finish (.inl (by constructor)) h
  | tstReg _ _ | tstImm _ _ => exact .of_testSZ (by constructor) h
  | movReg _ _ | movImm _ _ => exact .of_writeReg h
  | mcu _ _ _ | mcs _ _ _ => exact .of_needs h fun _ => .of_moveIf
  | addReg _ _ | addImm _ _ | subReg _ _ | subImm _ _ => exact .of_writeFlags (by constructor) h
  | notReg _ _ | notImm _ _ | andReg _ _ | andImm _ _ | orrReg _ _ | orrImm _ _ | xorReg _ _
  | xorImm _ _ | shlReg _ _ | shlImm _ _ | shrReg _ _ | shrImm _ _ =>
    exact .of_writeSZ (by constructor) h
  | programmable0 _ | programmable1 _ | programmable2 _ | programmable3 _ | programmable4 _
  | programmable5 _ | programmable6 _ | programmable7 _ | programmable8 _ | programmable9 _
  | programmableA _ | programmableB _ | programmableC _ | programmableD _ | programmableE _
  | programmableF _ => exact .of_raise h

end Sys2Proof.Machine

namespace Sys2Proof.Machine

/-! ### What the effects leave alone -/

/-- Settles O56: the effects outside supervisor mode are those on program-visible fields and memory. -/
theorem userModeLeavesTheSystemAlone : Obligations.UserModeLeavesTheSystemAlone := by
  intro i s t huser h
  cases exec_effect h with
  | enters r => exact .inl ⟨r, rfl⟩
  | usesPort hsup | writesPx hsup | refreshes _ hsup | returns _ hsup | waits _ hsup | stops _ hsup =>
    exact absurd hsup huser
  | computes | jumps | calls | writesUi | writesLr | writesSp | writesOffset | writesF1 | writesF2 | pops
  | stores => exact .inr ⟨systemKept_update .., ⟨rfl, rfl, rfl⟩⟩

/-- The listed parts of the system state, where an instruction changes none of them. -/
theorem systemKept_listed {i : Instr} {s t : State} (h : SystemKept s t) :
    (t.activePriv ≠ s.activePriv → (∃ low, i = .irt low) ∨ ∃ src, i = .pxw 31 src) ∧
    (t.ie ≠ s.ie → (∃ low, i = .irt low ∨ i = .hlt low) ∨ ∃ low, i = .hcf low) ∧
    (t.run ≠ s.run → ∃ low, i = .hlt low ∨ i = .hcf low) ∧
    ((∃ src, i = .pxw 31 src) ∨ PagingKept s t) ∧
    t.pending = s.pending ∧ t.params = s.params :=
  ⟨fun hne => absurd h.activePriv hne, fun hne => absurd h.ie hne, fun hne => absurd h.run hne,
    .inr h.paging, h.pending, h.params⟩

/-- Settles O57. -/
theorem onlyTheListedInstructionsChangeTheSystemState :
    Obligations.OnlyTheListedInstructionsChangeTheSystemState := by
  intro i s t h
  have same : ∀ {α : Type} {x : α} {p : Prop}, x ≠ x → p := fun hne => absurd rfl hne
  cases exec_effect h with
  | enters r => exact .inl ⟨r, rfl⟩
  | computes | jumps | calls | usesPort | writesUi | writesLr | writesSp | writesOffset | writesF1
  | writesF2 | pops | stores => exact .inr (systemKept_listed (systemKept_update ..))
  | writesPx => exact .inr ⟨same, same, same, .inr ⟨rfl, rfl, rfl⟩, rfl, rfl⟩
  | refreshes src => exact .inr ⟨fun _ => .inr ⟨src, rfl⟩, same, same, .inl ⟨src, rfl⟩, rfl, rfl⟩
  | returns low =>
    exact .inr ⟨fun _ => .inl ⟨low, rfl⟩, fun _ => .inl ⟨low, .inl rfl⟩, same, .inr ⟨rfl, rfl, rfl⟩,
      rfl, rfl⟩
  | waits low =>
    exact .inr ⟨same, fun _ => .inl ⟨low, .inr rfl⟩, fun _ => ⟨low, .inl rfl⟩, .inr ⟨rfl, rfl, rfl⟩,
      rfl, rfl⟩
  | stops low =>
    exact .inr ⟨same, fun _ => .inr ⟨low, rfl⟩, fun _ => ⟨low, .inr rfl⟩, .inr ⟨rfl, rfl, rfl⟩,
      rfl, rfl⟩

theorem writesUi_of_writesXreg {i : Instr} (h : WritesXreg 1 i) : WritesUi i := by
  cases h <;> constructor

/-- Settles O58. -/
theorem onlyTheListedInstructionsWriteFlAndUi : Obligations.OnlyTheListedInstructionsWriteFlAndUi := by
  intro i s t h
  cases exec_effect h with
  | enters r => exact .inl ⟨r, rfl⟩
  | computes hfl | jumps _ hfl => exact .inr ⟨hfl, .inr rfl⟩
  | returns low => exact .inr ⟨.inl (.irt low), .inl (.irt low)⟩
  | writesUi hi => exact .inr ⟨.inr rfl, .inl (writesUi_of_writesXreg hi)⟩
  | calls | usesPort | writesPx | refreshes | waits | stops | writesLr | writesSp | writesOffset
  | writesF1 | writesF2 | pops | stores => exact .inr ⟨.inr rfl, .inr rfl⟩

theorem writesIp_of_calls {i : Instr}
    (h : (∃ imm, i = .calImm imm) ∨ (∃ src low, i = .calReg src low)) : WritesIp i := by
  rcases h with ⟨imm, rfl⟩ | ⟨src, low, rfl⟩ <;> constructor

/-- The registers LR, SP, OF, F1 and F2, where an instruction changes none of them. -/
theorem specialsKept_listed {i : Instr} {s t : State} (h : SpecialsKept s t) :
    ((∃ imm, i = .calImm imm) ∨ (∃ src low, i = .calReg src low) ∨ WritesXreg 2 i ∨ t.lr = s.lr) ∧
    ((∃ d low, i = .pop d low) ∨ (∃ src low, i = .psh src low) ∨ WritesXreg 3 i ∨ t.sp = s.sp) ∧
    (WritesXreg 4 i ∨ t.offset = s.offset) ∧ (WritesXreg 6 i ∨ t.f1 = s.f1) ∧
    (WritesXreg 7 i ∨ t.f2 = s.f2) :=
  ⟨.inr (.inr (.inr h.lr)), .inr (.inr (.inr h.sp)), .inr h.offset, .inr h.f1, .inr h.f2⟩

/-- Settles O59. -/
theorem onlyTheListedInstructionsWriteIpAndSpecials :
    Obligations.OnlyTheListedInstructionsWriteIpAndSpecials := by
  intro i s t h
  have same : ∀ {α β γ : Prop} {x : Word}, α ∨ β ∨ γ ∨ x = x := .inr (.inr (.inr rfl))
  cases exec_effect h with
  | enters r => exact ⟨.inl ⟨r, rfl⟩, specialsKept_listed ⟨rfl, rfl, rfl, rfl, rfl⟩⟩
  | computes | usesPort | writesPx | waits | stops | writesUi =>
    exact ⟨.inr (.inr rfl), specialsKept_listed ⟨rfl, rfl, rfl, rfl, rfl⟩⟩
  | jumps hi => exact ⟨.inr (.inl hi), specialsKept_listed ⟨rfl, rfl, rfl, rfl, rfl⟩⟩
  | refreshes src =>
    exact ⟨.inr (.inl (.pxwUpdate src)), specialsKept_listed ⟨rfl, rfl, rfl, rfl, rfl⟩⟩
  | returns low => exact ⟨.inr (.inl (.irt low)), specialsKept_listed ⟨rfl, rfl, rfl, rfl, rfl⟩⟩
  | calls hi =>
    exact ⟨.inr (.inl (writesIp_of_calls hi)), hi.imp id .inl, same, .inr rfl, .inr rfl, .inr rfl⟩
  | writesLr hi => exact ⟨.inr (.inr rfl), .inr (.inr (.inl hi)), same, .inr rfl, .inr rfl, .inr rfl⟩
  | writesSp hi => exact ⟨.inr (.inr rfl), same, .inr (.inr (.inl hi)), .inr rfl, .inr rfl, .inr rfl⟩
  | writesOffset hi => exact ⟨.inr (.inr rfl), same, same, .inl hi, .inr rfl, .inr rfl⟩
  | writesF1 hi => exact ⟨.inr (.inr rfl), same, same, .inr rfl, .inl hi, .inr rfl⟩
  | writesF2 hi => exact ⟨.inr (.inr rfl), same, same, .inr rfl, .inr rfl, .inl hi⟩
  | pops d low => exact ⟨.inr (.inr rfl), same, .inl ⟨d, low, rfl⟩, .inr rfl, .inr rfl, .inr rfl⟩
  | stores _ _ _ hsp =>
    exact ⟨.inr (.inr rfl), same, .inr (hsp.imp id .inr), .inr rfl, .inr rfl, .inr rfl⟩

/-! ### Memory -/

theorem exec_memory {i : Instr} {s t : State} (h : exec i s = .next t) :
    MemoryKept s t ∨ ∃ a pa, Stores i ∧ DataAccess s i .write a ∧ s.translate .write a = .ok pa ∧
      MemoryKeptBut pa s t := by
  cases exec_effect h with
  | stores hi haccess hpa =>
    exact .inr ⟨_, _, hi, .store haccess, hpa, memoryKeptBut_storeWord s _ _⟩
  | enters | computes | jumps | calls | usesPort | writesPx | refreshes | returns | waits | stops
  | writesUi | writesLr | writesSp | writesOffset | writesF1 | writesF2 | pops =>
    exact .inl ⟨fun _ => rfl, rfl⟩

theorem MemoryKept.of_eq {s t : State} (hmem : t.mem = s.mem) (hreplaced : t.replaced = s.replaced) :
    MemoryKept s t := ⟨fun a => by rw [hmem], hreplaced⟩

theorem MemoryKept.of_enteredFrom {s u t : State} (h : EnteredFrom u t) (hmem : u.mem = s.mem)
    (hreplaced : u.replaced = s.replaced) : MemoryKept s t := by
  obtain ⟨r, rfl⟩ := h
  exact .of_eq hmem hreplaced

/-- Settles O60. -/
theorem onlyStoresChangeMemory : Obligations.OnlyStoresChangeMemory := by
  refine ⟨fun i s t h => exec_memory h, fun s t h => ?_⟩
  rcases step_next h with ⟨-, rfl⟩ | ⟨r, -, -, rfl⟩ | ⟨-, -, rfl⟩ | ⟨-, -, hrun⟩
  · exact .inl (.of_eq rfl rfl)
  · exact .inl (.of_eq (by simp) (by simp))
  · exact .inl (.of_eq (by simp) (by simp))
  rcases State.fetchAndRun_next hrun with ⟨fetched, i, hpa, hdecode, hexec⟩ | hE | ⟨pa, -, hE⟩
  · obtain ⟨n, hu⟩ := s.receive.advanceIp.afterFetch_eq fetched
    rw [hu, State.advanceIp] at hexec
    rw [s.receive_ip] at hpa hexec
    have hread : ∀ a, s.receive.mem.read a = s.mem.read a := fun a => by rw [s.receive_mem]
    rcases exec_memory hexec with hkept | ⟨a, pa, hi, haccess, htranslate, hbut⟩
    · exact .inl ⟨fun a => (hkept.cells a).trans (hread a), hkept.replaced.trans s.receive_replaced⟩
    · exact .inr ⟨i, fetched, _, a, pa, hpa, hdecode, rfl, hexec, hi, haccess, htranslate,
        fun c h0 h1 => (hbut c h0 h1).trans (hread c)⟩
  · exact .inl (.of_enteredFrom hE (by simp) (by simp))
  · exact .inl (.of_enteredFrom hE (by simp) (by simp))

/-! ### The invariant -/

/-- The invariant does not look at these fields. -/
theorem State.Inv.update {s : State} (h : s.Inv) (regs : Vector Word 8) (ip ui lr sp offset : Word)
    (fl : FlagBits) (px0 px1 px10 px11 px12 px13 px14 : Word) (ie : Bool) (savedFl : FlagBits)
    (savedUi ptBase : Word) (run : RunState) (replaced : List (PAddr × Word)) (arrivals : List (List Word))
    (answers : List Word) (trace : List PortEvent) (n : Nat) :
    State.Inv
      { s with
        regs := regs, ip := ip, ui := ui, lr := lr, sp := sp, offset := offset, fl := fl, px0 := px0
        px1 := px1, px10 := px10, px11 := px11, px12 := px12, px13 := px13, px14 := px14, ie := ie
        savedFl := savedFl, savedUi := savedUi, ptBase := ptBase, run := run, replaced := replaced
        arrivals := arrivals, portAnswers := answers, portTrace := trace, fresh := n } :=
  ⟨h.memWf, h.privLegal, h.f1Reserved, h.bigIntAvailable, h.f2Reserved, h.pageZeroMapped, h.pendingSet,
    h.pendingIo⟩

theorem State.Inv.enter {s : State} (h : s.Inv) (r : Request) : (s.enter r).Inv :=
  ⟨h.memWf, .inl rfl, h.f1Reserved, h.bigIntAvailable, h.f2Reserved, h.pageZeroMapped, h.pendingSet,
    h.pendingIo⟩

theorem State.Inv.receive {s : State} (h : s.Inv) : s.receive.Inv where
  memWf := by simpa using h.memWf
  privLegal := by simpa using h.privLegal
  f1Reserved := by simpa using h.f1Reserved
  bigIntAvailable := by simpa using h.bigIntAvailable
  f2Reserved := by simpa using h.f2Reserved
  pageZeroMapped := by simpa using h.pageZeroMapped
  pendingSet := State.nodup_receive_pending h.pendingSet
  pendingIo := fun r hr => by
    rcases State.mem_receive_pending.1 hr with hold | ⟨_, _, rfl⟩
    · exact h.pendingIo r hold
    · rfl

theorem State.Inv.takeRequest {s : State} (h : s.Inv) (r : Request) : (s.takeRequest r).Inv :=
  ⟨h.memWf, .inl rfl, h.f1Reserved, h.bigIntAvailable, h.f2Reserved, h.pageZeroMapped,
    h.pendingSet.erase r, fun q hq => h.pendingIo q (List.mem_of_mem_erase hq)⟩

theorem exec_keeps_inv {i : Instr} {s t : State} (h : s.Inv) (hexec : exec i s = .next t) : t.Inv := by
  cases exec_effect hexec with
  | enters r => exact h.enter r
  | computes | jumps | calls | usesPort | writesPx | waits | stops | writesUi | writesLr | writesSp
  | writesOffset | pops => exact h.update ..
  | refreshes src _ hlevel hzero =>
    exact ⟨h.memWf, hlevel, h.f1Reserved, h.bigIntAvailable, h.f2Reserved, fun _ => hzero, h.pendingSet,
      h.pendingIo⟩
  | returns low =>
    exact ⟨h.memWf, .inr rfl, h.f1Reserved, h.bigIntAvailable, h.f2Reserved, h.pageZeroMapped,
      h.pendingSet, h.pendingIo⟩
  | writesF1 _ hreserved hbig =>
    exact ⟨h.memWf, h.privLegal, hreserved, hbig, h.f2Reserved, h.pageZeroMapped, h.pendingSet,
      h.pendingIo⟩
  | writesF2 _ hreserved =>
    exact ⟨h.memWf, h.privLegal, h.f1Reserved, h.bigIntAvailable, hreserved, h.pageZeroMapped,
      h.pendingSet, h.pendingIo⟩
  | stores =>
    exact ⟨Memory.writeWord_wf _ _ _ h.memWf, h.privLegal, h.f1Reserved, h.bigIntAvailable,
      h.f2Reserved, h.pageZeroMapped, h.pendingSet, h.pendingIo⟩

theorem State.Inv.fetched {s : State} (h : s.Inv) (pa : PAddr) : (s.advanceIp.afterFetch pa).Inv := by
  obtain ⟨n, hn⟩ := s.advanceIp.afterFetch_eq pa
  rw [hn]
  exact h.update ..

/-- Settles O55: each kind of step keeps the invariant. -/
theorem stepKeepsTheInvariant : Obligations.StepKeepsTheInvariant := by
  intro s t h hstep
  rcases step_next hstep with ⟨-, rfl⟩ | ⟨r, -, -, rfl⟩ | ⟨-, -, rfl⟩ | ⟨-, -, hrun⟩
  · exact h
  · exact h.receive.takeRequest r
  · exact h.receive
  rcases State.fetchAndRun_next hrun with ⟨pa, i, -, -, hexec⟩ | ⟨r, rfl⟩ | ⟨pa, -, r, rfl⟩
  · exact exec_keeps_inv (h.receive.fetched pa) hexec
  · exact State.Inv.enter (s := s.receive.advanceIp) (h.receive.update ..) r
  · exact (h.receive.fetched pa).enter r

end Sys2Proof.Machine
